-- ==== Sys2Proof/Word.lean ====
section
/-! DEFINITION. The byte and the two-byte field of the GZ340's frames. Every frame of the spec's Chapter 12 is a
sequence of whole bytes, and a field of two bytes is sent most significant byte first (R182). -/

namespace Sys2Proof

/-- One byte on the trunk or on a host port. -/
abbrev Byte := BitVec 8

/-- The byte that codes a number (only the number's low eight bits are kept). -/
def byte (n : Nat) : Byte := BitVec.ofNat 8 n

/-- A field of two bytes, most significant byte first (R182). -/
def be16 (n : Nat) : List Byte := [BitVec.ofNat 8 (n / 256), BitVec.ofNat 8 n]

/-- The number that two bytes spell, the first being the more significant (R182). -/
def word16 (hi lo : Byte) : Nat := hi.toNat * 256 + lo.toNat

end Sys2Proof
end

