-- ==== Sys2Proof/Syntax.lean ====
section
/-! DEFINITION. The commands of the block: one constructor for each row of spec/opcode_table.json. A row is a step of
the GZ340 (a host command reaching its owner, a transaction on a host port, a timer, a line event), whole and
indivisible. -/

namespace Sys2Proof

/-- The two identical host ports (scope 1.1). -/
inductive Port where
  | a
  | b
  deriving DecidableEq, Repr

/-- A stream handle, 0..63 (scope Table 5-1). -/
abbrev Handle := Fin 64

/-- A step of the GZ340. The arguments of the twenty host commands are not operands here: they are the body of the
command frame that COMMAND_TRANSACTION took and that State holds at the Command Arbiter until the arbiter takes the
command (R157, R160; log entry 1). An operand is what the step learns from outside at its own moment: which port, which
bytes arrived, when (in byte-times), the level of a pin. -/
inductive Instr where
  /-- OPEN_STREAM: the arbiter takes the waiting command of port `p` and the Table Controller acts on it. -/
  | openStream (p : Port)
  /-- AMEND_STREAM of port `p`. -/
  | amendStream (p : Port)
  /-- CLOSE_STREAM of port `p`. -/
  | closeStream (p : Port)
  /-- READ_STREAM of port `p`. -/
  | readStream (p : Port)
  /-- FIND_STREAM of port `p`. -/
  | findStream (p : Port)
  /-- POST_VALUE of port `p`. -/
  | postValue (p : Port)
  /-- RENEW_LEASES of port `p`. -/
  | renewLeases (p : Port)
  /-- RESTART_STREAM of port `p`. -/
  | restartStream (p : Port)
  /-- READ_LOAD of port `p`. -/
  | readLoad (p : Port)
  /-- SEND_REQUEST of port `p`. -/
  | sendRequest (p : Port)
  /-- FETCH_REQUEST of port `p`. -/
  | fetchRequest (p : Port)
  /-- CANCEL_REQUEST of port `p`. -/
  | cancelRequest (p : Port)
  /-- READ_NODE of port `p`. -/
  | readNode (p : Port)
  /-- SCAN_NODES of port `p`. -/
  | scanNodes (p : Port)
  /-- START_TRUNK of port `p`; `lfault` is the level of the LFAULT pin at the moment the command is taken (R61). -/
  | startTrunk (p : Port) (lfault : Bool)
  /-- HALT_TRUNK of port `p`. -/
  | haltTrunk (p : Port)
  /-- SET_CONFIG of port `p`. -/
  | setConfig (p : Port)
  /-- READ_CONFIG of port `p`. -/
  | readConfig (p : Port)
  /-- READ_ATTN of port `p`. -/
  | readAttn (p : Port)
  /-- SET_ATTN_MASK of port `p`. -/
  | setAttnMask (p : Port)
  /-- BAD_COMMAND: the arbiter takes port `p`'s command whose code names no command (R161). -/
  | badCommand (p : Port)
  /-- COMMAND_TRANSACTION: SEL of port `p` rises on a COMMAND transaction in which the host sent `sent` after the kind
  byte (whole bytes). -/
  | commandTransaction (p : Port) (sent : List Byte)
  /-- RESULT_TRANSACTION: SEL of port `p` rises on a RESULT transaction in which the host clocked out `clocked` whole
  bytes of the response frame. -/
  | resultTransaction (p : Port) (clocked : Nat)
  /-- PORT_RESET: SEL of port `p` rises on a PORT_RESET transaction in which the host sent `sent` after the kind byte. -/
  | portReset (p : Port) (sent : List Byte)
  /-- TRANSACTION_NOT_TAKEN: SEL of port `p` rises on a transaction whose bytes, kind byte first, were `sent` and which
  is not taken (R154). -/
  | transactionNotTaken (p : Port) (sent : List Byte)
  /-- DEVICE_RESET: RESETn low or power-up; `selLowA` and `selLowB` say whether each port's SEL is low when the reset
  is over, which is a transaction the port disregards (R165). -/
  | deviceReset (selLowA selLowB : Bool)
  /-- LFAULT_ASSERTED: the transceiver asserts LFAULT (R72). -/
  | lfaultAsserted
  /-- RESTART_MARK_DUE: the cycle timer brings a restart mark due (R63). -/
  | restartMarkDue
  /-- RESTART_MARK_END: a restart mark ends (R64). -/
  | restartMarkEnd
  /-- CYCLE_MARK_DUE: the cycle timer brings a cycle mark due (R65). -/
  | cycleMarkDue
  /-- CYCLE_MARK_END: the cycle mark ends (R67). -/
  | cycleMarkEnd
  /-- DRAIN_END: in DRAINING, the moment the next mark would have fallen due (R70). -/
  | drainEnd
  /-- GUARD_START: the guard begins at C − 10 (R68). -/
  | guardStart
  /-- LEASE_EXPIRY: the lease remaining of record `h`, counted down to 0 at a RUNNING cycle mark, retires it (R17). -/
  | leaseExpiry (h : Handle)
  /-- FIRST_ATTEMPT_START: the Cyclic Scheduler turns to the next WAITING record (R98). -/
  | firstAttemptStart
  /-- RETRY_START: the Cyclic Scheduler turns to the head of the retry list (R106). -/
  | retryStart
  /-- PROBE_START: the Acyclic Scheduler turns to the head of the probe list (R126). -/
  | probeStart
  /-- PIECE_START: the Acyclic Scheduler turns to the request at the head of the queue (R133). -/
  | pieceStart
  /-- POLL_SENT: the last byte of the poll is sent (R82). -/
  | pollSent
  /-- REPLY_BEGIN: a start bit is detected `turnaround` byte-times after the end of the poll (R82). -/
  | replyBegin (turnaround : Nat)
  /-- EXCHANGE_TIMEOUT: W passes with no reply begun (R82). -/
  | exchangeTimeout
  /-- REPLY_END: the reply's bytes were `bytes`, with `gaps` byte-times of idle line between them in all; the reply is
  complete or ended short (R83, R84). -/
  | replyEnd (bytes : List Byte) (gaps : Nat)
  /-- SLOT_END_OVERLONG: the slot ends while the engine is still receiving; `bytes` have been received whole (R85). -/
  | slotEndOverlong (bytes : List Byte)
  /-- QUIETING_END: the engine leaves QUIETING `after` byte-times after the slot end (R88). -/
  | quietingEnd (after : Nat)
  /-- QUIETING_BOUND: 16 byte-times after the slot end the engine is still QUIETING (R89). -/
  | quietingBound
  /-- SEL_FALLS: the SEL of port `p` falls (R155). -/
  | selFalls (p : Port)
  /-- KIND_BYTE_WHOLE: the kind byte of a RESULT transaction on port `p` is whole (R159). -/
  | kindByteWhole (p : Port)
  /-- STRAY_BYTES: `elapsed` byte-times after the last event, reception of stray bytes on RXD begins (`receiving` yes)
  or stops (`receiving` no) (R87). -/
  | strayBytes (elapsed : Nat) (receiving : Bool)
  deriving DecidableEq, Repr

end Sys2Proof
end

