-- ==== Sys2Proof/Decode.lean ====
section
/-! DEFINITION. The block has no instruction decoder: no row of spec/opcode_table.json gives bits (its "fields" are
empty and it has no "fixed"), so no word spells a command. The codes 1 to 20 that command frames carry (R185) are data
on a host port and are read in Machine/Operands.lean. -/

namespace Sys2Proof

/-- The command that a word of `nbits` bits spells by the table's bits: none, since no row of the table gives bits. -/
def decodeTableWord (_nbits _w : Nat) : Option Instr := none

end Sys2Proof
end

