-- ==== Sys2Proof/Config.lean ====
section
/-! DEFINITION. What the spec leaves to an implementation. The GZ340's spec leaves two things open that an effect
turns on, and one input has no operand. When the unanswered end of a piece makes its node LOST, R143 gives the request's
failure count and reason for either order of the two reports and names no order. In a transaction that a device reset
discards, no rule says what the port shifts out on SDO (R165, R166). And the payload bytes of a reply are placed as they
arrive (R84), so that those which had arrived lie in the Value Store when LFAULT or a device reset cuts the reply off,
rows that carry no bytes. -/

namespace Sys2Proof

/-- FREE VALUE (assumption log entry 7). `Config.rosterReportFirst k` says whether, at the `k`-th exchange end at which
the order matters (R143), the Node Roster's report is taken before the Acyclic Scheduler's. It has no body: nothing
can be proved of it but what holds for both orders. -/
opaque Config.rosterReportFirst : Nat → Bool

/-- FREE VALUE (assumption log entry 30). `Config.sdoDiscarded k p n` is the level of port `p`'s SDO, `none` for not
driven, after `n` falls of SCK in a transaction that the `k`-th read of a free value stands for, a transaction a device
reset discarded (R165): no rule says what it shows. -/
opaque Config.sdoDiscarded : Nat → Port → Nat → Option Bool

/-- FREE VALUE (assumption log entry 13). `Config.arrivedBytes k` are the bytes of a reply that had been received
whole when the event that the `k`-th read of a free value stands for, LFAULT_ASSERTED or DEVICE_RESET, cut its
reception off (R48, R58, R84, R90): any bytes whatever. -/
opaque Config.arrivedBytes : Nat → List Byte

end Sys2Proof
end

