-- ==== Sys2Proof/Machine/State.lean ====
section
/-! DEFINITION. The state of the GZ340, one structure for each block of the spec's Table 2-1, and the state right after
a device reset. Every field is plain data. -/

namespace Sys2Proof.Machine

/-! ### Names and small records -/

/-- A field node's address less one: node 1 is 0, node 62 is 61 (scope Table 5-1). -/
abbrev Node := Fin 62

/-- A request id, 0..7 (scope Table 5-1). -/
abbrev ReqId := Fin 8

/-- A Value Store block number, 0..383; the stream pool is 0..319, the request area 320..383 (R42). -/
abbrev Block := Fin 384

/-- A set of attention reasons, or a mask of enables: bit `i` is the `i`-th reason of Table 9-1 (R186). -/
abbrev ReasonSet := BitVec 14

/-- One value for each port. -/
structure PerPort (α : Type) where
  a : α
  b : α
  deriving DecidableEq, Repr

/-- COLLECT moves a value from the node to the controller, DELIVER from the controller to the node (Table 1-1). -/
inductive Direction where
  | collect
  | deliver
  deriving DecidableEq, Repr

/-- The two halves of a stream's block list (R44). -/
inductive Half where
  | first
  | second
  deriving DecidableEq, Repr

/-! ### Table Controller (Chapters 1 and 2) -/

/-- Stream states, in the order of Table 1-3. -/
inductive StreamState where
  | active
  | suspended
  | faulted
  | closing
  deriving DecidableEq, Repr

/-- The parameters that govern a stream's service and that an amendment replaces (Tables 1-1 and 1-5). -/
structure Params where
  period : Nat
  phase : Nat
  len : Nat
  retryLimit : Nat
  missLimit : Option Nat
  lease : Option Nat
  deriving DecidableEq, Repr

/-- A pending amendment (Table 1-5); its block list is absent when it keeps the length. -/
structure Amendment where
  params : Params
  blocks : Option (List Block)
  deriving DecidableEq, Repr

/-- The cycle number and the age of a sample that is present (Table 3-3). -/
structure SampleInfo where
  cycle : Nat
  age : Nat
  deriving DecidableEq, Repr

/-- The five saturating counters of a record (Table 1-6). -/
structure Counters where
  served : Nat
  missed : Nat
  consecutive : Nat
  duplicates : Nat
  superseded : Nat
  deriving DecidableEq, Repr

/-- A live stream record (Table 1-1). The handle is its place in the table. `sample` and `publishedHalf` concern
COLLECT; `current` (present, with its accepted flag), `posted` (presence) and `currentHalf` concern DELIVER. The bytes
of a value lie in the Value Store. -/
structure StreamRecord where
  owner : Port
  node : Node
  channel : Nat
  direction : Direction
  params : Params
  leaseRemaining : Option Nat
  state : StreamState
  seqBit : Bool
  resync : Bool
  blocks : List Block
  publishedHalf : Half
  sample : Option SampleInfo
  currentHalf : Half
  current : Option Bool
  posted : Bool
  counters : Counters
  amendment : Option Amendment
  deriving DecidableEq, Repr

/-- The Stream Table (`none` is a free record, R1) and the Load Map (R28). -/
structure StreamTable where
  records : Vector (Option StreamRecord) 64
  load : Vector Nat 128
  deriving DecidableEq, Repr

/-! ### Value Store (Chapter 3) -/

/-- The contents of the Value Store: byte `o` of block `k` is at address `32 * k + o`. The list holds address and byte
pairs, addresses strictly rising, no byte 0; an unlisted address reads as 0 (log entry 3). -/
abbrev Memory := List Host.Cell

/-- The Value Store: its contents and its free block set, in ascending order (R43). -/
structure ValueStore where
  mem : Memory
  free : List Block
  deriving DecidableEq, Repr

/-! ### Cycle Unit (Chapter 4) -/

/-- Trunk states, in the order of Table 4-3. -/
inductive TrunkState where
  | off
  | syncing
  | running
  | draining
  | halted
  | faulted
  deriving DecidableEq, Repr

/-- Why the trunk is FAULTED (Table 4-2). -/
inductive FaultCause where
  | lfaultAsserted
  | lineJammed
  deriving DecidableEq, Repr

/-- The phases of a cycle (Table 4-5). ACYCLIC is `probes` and then `pieces`; `over` is the quiet line between the end
of ACYCLIC and the next mark; `idle` is outside any cycle. -/
inductive Phase where
  | idle
  | mark
  | cyclic
  | retry
  | probes
  | pieces
  | over
  deriving DecidableEq, Repr

/-- The applied configuration (Table 2-4). -/
structure TrunkConfig where
  c : Nat
  a : Nat
  w : Nat
  threshold : Nat
  interval : Nat
  deriving DecidableEq, Repr

/-- A staged configuration: a C and an A (Table 4-2). -/
structure Staged where
  c : Nat
  a : Nat
  deriving DecidableEq, Repr

/-- The Cycle Unit (Table 4-2). `timer` is the moment the next mark falls due and `clock` the present moment, both in
byte-times counted from the beginning of the last mark (log entry 4); `timer` is absent while the timer does not run.
`guard` says that the guard of the cycle has begun (R68). -/
structure CycleUnit where
  state : TrunkState
  cycle : BitVec 16
  marksSent : Nat
  haltRequested : Bool
  faultCause : Option FaultCause
  applied : TrunkConfig
  staged : Option Staged
  timer : Option Nat
  clock : Nat
  phase : Phase
  guard : Bool
  deriving DecidableEq, Repr

/-! ### Cyclic Scheduler (Chapter 6) -/

/-- Where a listed record stands in the cycle's service (Table 6-2). -/
inductive Disposition where
  | waiting
  | inFlight
  | retryWait
  | served
  | unserved
  | excused
  deriving DecidableEq, Repr

/-- A service entry (Table 6-1). -/
structure ServiceEntry where
  handle : Handle
  attempts : Nat
  disposition : Disposition
  deriving DecidableEq, Repr

/-- The due list, the retry list and the service entries of the cycle in progress, the entries in the order in which
the due list was formed (R94). -/
structure CyclicScheduler where
  due : List Handle
  retry : List Handle
  entries : List ServiceEntry
  deriving DecidableEq, Repr

/-! ### Acyclic Scheduler (Chapter 8) -/

/-- The kinds of acyclic request, in the order of their coding (Table 12-6). -/
inductive ReqKind where
  | read
  | write
  deriving DecidableEq, Repr

/-- The states of a request record that is not FREE (Table 8-2). -/
inductive ReqState where
  | queued
  | active
  | cancelling
  | done
  | failed
  deriving DecidableEq, Repr

/-- Why a request failed, in the order of Table 8-1. -/
inductive FailReason where
  | refused
  | nodeLost
  | noAnswer
  | deferLimit
  deriving DecidableEq, Repr

/-- A request record that is not FREE (Table 8-1). Its data area is fixed blocks of the Value Store (R58). -/
structure Request where
  state : ReqState
  owner : Port
  kind : ReqKind
  node : Node
  param : Nat
  length : Nat
  progress : Nat
  reason : Option FailReason
  defers : Nat
  failures : Nat
  deriving DecidableEq, Repr

/-- The Acyclic Scheduler: the Request Table (`none` is FREE, R130), the acyclic queue (R132), the deferred set of the
phase (R133), the probe list (R125), scan pending (R127) and the number of probes the cycle has started (R126). -/
structure AcyclicScheduler where
  requests : Vector (Option Request) 8
  queue : List ReqId
  deferred : List ReqId
  probeList : List Node
  scanPending : Bool
  probesRun : Nat
  deriving DecidableEq, Repr

/-! ### Exchange Engine (Chapter 5) -/

/-- What a poll asks for and what the engine must know to judge its reply (R79, R80, R81): the record or request it
serves, the length, the sequence bit and the resync flag a stream poll carried, the offset and count of a piece. -/
inductive Poll where
  | collect (h : Handle) (len : Nat) (bit resync : Bool)
  | value (h : Handle) (len : Nat) (bit resync : Bool)
  | hold (h : Handle) (len : Nat) (bit resync : Bool)
  | probe
  | piece (id : ReqId) (kind : ReqKind) (offset count : Nat)
  deriving DecidableEq, Repr

/-- An exchange in flight: the poll, the polled node, and the moments its poll ends and its slot ends. -/
structure Exchange where
  poll : Poll
  node : Node
  pollEnd : Nat
  slotEnd : Nat
  deriving DecidableEq, Repr

/-- The engine's states (Table 5-2). RECEIVING holds the moment the reply began, QUIETING the slot end of the overlong
exchange. -/
inductive EngineState where
  | idle
  | polling (x : Exchange)
  | awaiting (x : Exchange)
  | receiving (x : Exchange) (replyStart : Nat)
  | quieting (slotEnd : Nat)
  deriving DecidableEq, Repr

/-- The Exchange Engine: its state and its identity holding (R84). -/
structure Engine where
  state : EngineState
  identity : List Byte
  deriving DecidableEq, Repr

/-! ### Node Roster (Chapter 7) -/

/-- Roster states, in the order of Table 7-3. -/
inductive NodeState where
  | unknown
  | present
  | absent
  | lost
  deriving DecidableEq, Repr

/-- A node's identity (Table 7-2). -/
structure Identity where
  typeCode : Nat
  channels : Nat
  largest : Nat
  deriving DecidableEq, Repr

/-- A roster entry (Table 7-1). -/
structure RosterEntry where
  state : NodeState
  identity : Option Identity
  failures : Nat
  streams : Nat
  deriving DecidableEq, Repr

/-! ### Host ports, Command Arbiter and Attention Unit (Chapters 9 and 10) -/

/-- A port's state (Table 10-3). The response holder holds a result frame exactly in RESULT_READY (R156). -/
inductive PortState where
  | idle
  | working
  | resultReady (frame : List Byte)
  deriving DecidableEq, Repr

/-- A transaction on a port. `high`: SEL is high, none is in progress. `active`: one is in progress; `status` is the
status byte captured at SEL falling (R155) and `response` the response frame once the kind byte RESULT is whole, with
`held` saying whether it is the held result or the empty response (R159). `discarded`: SEL is low, but a device reset
discarded the transaction (R165). -/
inductive Transaction where
  | high
  | active (status : Byte) (response : Option (Bool × List Byte))
  | discarded
  deriving DecidableEq, Repr

/-- A host port: its state and response holder, the sticky flags, the attention mask, the transaction in progress. -/
structure HostPort where
  state : PortState
  dropped : Bool
  lost : Bool
  frameError : Bool
  mask : ReasonSet
  txn : Transaction
  deriving DecidableEq, Repr

/-- A command handed to the arbiter: the port it came from, its code, its tag and its body (R157). -/
structure Command where
  port : Port
  code : Byte
  tag : Byte
  body : List Byte
  deriving DecidableEq, Repr

/-- What a parked command waits for (R162): the end of the exchange of the record it closes (with whether a pending
amendment was dropped, R170) or of the request it cancels. -/
inductive ParkKind where
  | close (h : Handle) (dropped : Bool)
  | cancel (id : ReqId)
  deriving DecidableEq, Repr

/-- A parked command; an orphan is one whose session has ended (R164). -/
structure Parked where
  kind : ParkKind
  port : Port
  tag : Byte
  orphan : Bool
  deriving DecidableEq, Repr

/-- The Command Arbiter: the commands that wait, in the order their frames were taken (R160), and the parked one. -/
structure Arbiter where
  waiting : List Command
  parked : Option Parked
  deriving DecidableEq, Repr

/-- An attention set: for each of the 73 sources (0 GLOBAL, 1 + n REQUEST n, 9 + h STREAM h) the reasons of its entry;
no reasons is no entry, since an entry's set of reasons is not empty (R147). -/
abbrev AttnSet := Vector ReasonSet 73

/-- The pins that carry levels: LFAULT as last known, whether a byte is in reception on RXD (R87; what is followed of it
is log entry 22), and the frame being transmitted on TXD; TXEN is asserted exactly while a frame is (R59). -/
structure Pins where
  lfault : Bool
  rxBusy : Bool
  tx : Option (List Byte)
  deriving DecidableEq, Repr

/-! ### The machine -/

/-- The state of the GZ340. `freeIndex` counts the free values read so far (log entries 7, 13 and 30) and `pending` is
the queue of the commands that are waiting; both are the model's own. -/
structure State where
  ports : PerPort HostPort
  attn : PerPort AttnSet
  arbiter : Arbiter
  table : StreamTable
  store : ValueStore
  trunk : CycleUnit
  sched : CyclicScheduler
  acyclic : AcyclicScheduler
  engine : Engine
  roster : Vector RosterEntry 62
  pins : Pins
  freeIndex : Nat
  pending : List Instr
  deriving DecidableEq, Repr

/-- The machine never stops with a fault: the spec gives every step an effect, and a trunk fault is a state of the
machine (FAULTED, R74), not a stop. No command raises this reason. -/
inductive Fault where
  /-- Raised by no command; it stands for an access outside the 384 blocks of the Value Store, which the type `Block`
  rules out. Safe: it would only stop the model. -/
  | outsideValueStore
  deriving DecidableEq, Repr

/-- Why a command has no meaning. -/
inductive Refusal where
  /-- Raised by exec's arm for a row of the table that has no meaning yet; no arm raises it now. Safe. -/
  | notModelled (mnemonic : String)
  deriving DecidableEq, Repr

/-! ### Device reset -/

/-- The default configuration: C 1000, A 150, W 4, threshold 4, interval 32 (Table 4-2). -/
def TrunkConfig.reset : TrunkConfig := ⟨1000, 150, 4, 4, 32⟩

/-- The Cycle Unit after a device reset (Table 4-2). `clock` has no meaning while the trunk is OFF (log entry 4). -/
def CycleUnit.reset : CycleUnit :=
  { state := .off, cycle := 0, marksSent := 0, haltRequested := false, faultCause := none, applied := .reset,
    staged := none, timer := none, clock := 0, phase := .idle, guard := false }

/-- A port after a device reset: IDLE, flags clear, every reason enabled (R149, R165). -/
def HostPort.reset : HostPort :=
  { state := .idle, dropped := false, lost := false, frameError := false, mask := BitVec.allOnes 14, txn := .high }

/-- The empty attention set (R147). -/
def AttnSet.empty : AttnSet := Vector.replicate 73 0

/-- Every record free and every Load Map entry 0 (R1, R28). -/
def StreamTable.reset : StreamTable := ⟨Vector.replicate 64 none, Vector.replicate 128 0⟩

/-- The 320 pool blocks, ascending (R42). -/
def poolBlocks : List Block := (List.finRange 320).map fun k => ⟨k.val, by omega⟩

/-- The Acyclic Scheduler after a device reset (R115, R130, R133). -/
def AcyclicScheduler.reset : AcyclicScheduler :=
  { requests := Vector.replicate 8 none, queue := [], deferred := [], probeList := [], scanPending := false,
    probesRun := 0 }

/-- A roster entry after a device reset (Table 7-1). -/
def RosterEntry.reset : RosterEntry := ⟨.unknown, none, 0, 0⟩

/-- The machine right after power-up: every field as the spec states it for a device reset. The pins LFAULT and RXD are
inputs and are taken to be quiet, the Value Store's contents are taken to be 0 and the identity holding to be empty,
none of which the spec states (log entries 3 and 5). -/
def State.reset : State :=
  { ports := ⟨.reset, .reset⟩
    attn := ⟨.empty, .empty⟩
    arbiter := ⟨[], none⟩
    table := .reset
    store := ⟨[], poolBlocks⟩
    trunk := .reset
    sched := ⟨[], [], []⟩
    acyclic := .reset
    engine := ⟨.idle, []⟩
    roster := Vector.replicate 62 .reset
    pins := ⟨false, false, none⟩
    freeIndex := 0
    pending := [] }

end Sys2Proof.Machine
end

