-- ==== Sys2Proof/Machine/Frames.lean ====
section
/-! DEFINITION. The byte layouts of the spec's Chapter 12: the CRC-16, the frames the controller transmits on the
trunk, the command and result frames of a host port, and the codings of states and codes. -/

namespace Sys2Proof.Machine

/-! ### The CRC-16 (R182) -/

/-- One bit into the CRC register. -/
def crcBit (r : BitVec 16) (bit : Bool) : BitVec 16 :=
  if (bit ^^ r.msb) then (r <<< 1) ^^^ 0x8005#16 else r <<< 1

/-- One byte into the CRC register, most significant bit first. -/
def crcByte (r : BitVec 16) (b : Byte) : BitVec 16 :=
  [b.getLsbD 7, b.getLsbD 6, b.getLsbD 5, b.getLsbD 4, b.getLsbD 3, b.getLsbD 2, b.getLsbD 1, b.getLsbD 0].foldl
    crcBit r

/-- The CRC-16 over the bytes covered. -/
def crc16 (bytes : List Byte) : BitVec 16 := bytes.foldl crcByte 0xFFFF#16

/-- The two CRC bytes that close a frame over `bytes`, high byte first. -/
def crcBytes (bytes : List Byte) : List Byte := be16 (crc16 bytes).toNat

/-- A frame: the bytes before the CRC and then the CRC. -/
def withCrc (bytes : List Byte) : List Byte := bytes ++ crcBytes bytes

/-- The last two bytes are the CRC of the bytes before them. -/
def crcGood (frame : List Byte) : Bool :=
  decide (2 ≤ frame.length) && frame.drop (frame.length - 2) == crcBytes (frame.take (frame.length - 2))

/-! ### A byte on the trunk (R182) -/

/-- What the line carries for a tenth of a byte-time. The levels are electrical and outside the spec. -/
inductive LineBit where
  /-- The start bit of a byte. -/
  | start
  /-- A data bit. -/
  | data (value : Bool)
  /-- The stop bit of a byte. -/
  | stop
  deriving DecidableEq, Repr

/-- A byte on the trunk, one byte-time: a start bit, the 8 data bits least significant bit first, and a stop bit
(R182). TXD carries a frame's bytes so, and the bytes that the rows of a reply carry are those whose line bits arrive
on RXD. -/
def byteLineBits (b : Byte) : List LineBit :=
  [.start, .data (b.getLsbD 0), .data (b.getLsbD 1), .data (b.getLsbD 2), .data (b.getLsbD 3), .data (b.getLsbD 4),
    .data (b.getLsbD 5), .data (b.getLsbD 6), .data (b.getLsbD 7), .stop]

/-! ### Trunk frames (Tables 12-1 and 12-2) -/

/-- The broadcast address of marks. -/
def broadcastAddress : Nat := 63

/-- A node's address. -/
def nodeAddress (n : Node) : Nat := n.val + 1

/-- The node an address names, if it is 1..62. -/
def nodeOf? (address : Nat) : Option Node :=
  if h : 1 ≤ address ∧ address ≤ 62 then some ⟨address - 1, by omega⟩ else none

/-- A yes or no as a byte (Table 12-6). -/
def boolByte (v : Bool) : Byte := if v then 1 else 0

/-- A restart mark (R63, R183). -/
def restartMarkFrame (toFollow c w : Nat) : List Byte :=
  withCrc ([byte broadcastAddress, 0x01, byte toFollow] ++ be16 c ++ [byte w])

/-- A cycle mark (R65, R183). -/
def cycleMarkFrame (cycle c : Nat) : List Byte :=
  withCrc ([byte broadcastAddress, 0x02] ++ be16 cycle ++ be16 c)

/-- The coding of a direction (Table 12-6). -/
def directionCode : Direction → Nat
  | .collect => 0
  | .deliver => 1

/-- The flags byte of a stream poll: sequence bit, resync flag, hold flag (R183). -/
def pollFlags (bit resync hold : Bool) : Nat :=
  bit.toNat + 2 * resync.toNat + 4 * hold.toNat

/-- A stream poll (R79, R183); `value` is empty for a COLLECT poll and a hold poll. -/
def streamPollFrame (n : Node) (channel : Nat) (d : Direction) (bit resync hold : Bool) (lengthField : Nat)
    (value : List Byte) : List Byte :=
  withCrc ([byte (nodeAddress n), 0x10, byte (channel % 16 + 16 * directionCode d), byte (pollFlags bit resync hold),
    byte lengthField] ++ value)

/-- A probe (R80, R183). -/
def probeFrame (n : Node) : List Byte := withCrc [byte (nodeAddress n), 0x11, 0, 0, 0]

/-- The coding of a request kind (Table 12-6). -/
def reqKindCode : ReqKind → Nat
  | .read => 0
  | .write => 1

/-- A piece poll (R80, R183); byte 7 is the request's length less one; `data` is empty for a read piece. -/
def piecePollFrame (n : Node) (k : ReqKind) (param offset count length : Nat) (data : List Byte) : List Byte :=
  withCrc ([byte (nodeAddress n), 0x12, byte (reqKindCode k)] ++ be16 param ++
    [byte offset, byte count, byte (length - 1)] ++ data)

/-! ### Replies (Tables 5-3 and 12-3, R83, R184) -/

/-- The outcomes of an exchange (Table 5-4). -/
inductive ExchangeOutcome where
  | ok
  | duplicate
  | deferred
  | refused
  | timeout
  | crcError
  | badLength
  | overlong
  deriving DecidableEq, Repr

/-- Whether the outcome shows that the node answered (Table 5-4). ABANDONED is no outcome here: it is not reported to
the roster (R91). -/
def ExchangeOutcome.answered : ExchangeOutcome → Bool
  | .ok | .duplicate | .deferred | .refused => true
  | .timeout | .crcError | .badLength | .overlong => false

/-- The length of the header of the reply that answers the poll (R83). It is taken from the poll: no rule says whether a
reply whose kind byte is another reply kind has the header of its own kind or of the kind expected (DESIGN CHOICE, log
entry 33). -/
def replyHeaderLength : Poll → Nat
  | .piece _ _ _ _ => 5
  | _ => 4

/-- The reply kind that answers the poll (R184). -/
def replyKind : Poll → Byte
  | .probe => 0x21
  | .piece _ _ _ _ => 0x22
  | _ => 0x20

/-- The declared length: the last byte of the header that the poll calls for, once it is whole (R83, log entry 33). -/
def declaredLength (p : Poll) (bytes : List Byte) : Option Nat :=
  (bytes[replyHeaderLength p - 1]?).map BitVec.toNat

/-- The bytes that make up the whole reply, when the header is whole: header, declared payload, CRC (R83). -/
def replyLength (p : Poll) (bytes : List Byte) : Option Nat :=
  (declaredLength p bytes).map fun d => replyHeaderLength p + d + 2

/-- The reply is complete: as many bytes as it declares have been received (R83). -/
def replyComplete (p : Poll) (bytes : List Byte) : Bool :=
  match replyLength p bytes with
  | some n => decide (n ≤ bytes.length)
  | none => false

/-- The reply itself: bytes received beyond its end belong to no exchange. -/
def replyFrame (p : Poll) (bytes : List Byte) : List Byte :=
  match replyLength p bytes with
  | some n => bytes.take n
  | none => bytes

/-- The payload bytes among those received: after the header, and no more than declared (R84). -/
def replyPayload (p : Poll) (bytes : List Byte) : List Byte :=
  match declaredLength p bytes with
  | some d => (bytes.drop (replyHeaderLength p)).take d
  | none => []

/-- The reply code: the low seven bits of byte 2 (R184). -/
def replyCode (bytes : List Byte) : Nat := ((bytes[2]?).getD 0).toNat % 128

/-- The sequence bit of a stream reply: bit 7 of byte 2 (R184). -/
def replyBit (bytes : List Byte) : Bool := ((bytes[2]?).getD 0).msb

/-- The payload length an ACCEPT calls for (Table 5-1). -/
def acceptPayload : Poll → Nat
  | .collect _ len _ _ => len
  | .value _ _ _ _ => 0
  | .hold _ _ _ _ => 0
  | .probe => 8
  | .piece _ .read _ n => n
  | .piece _ .write _ _ => 0

/-- The expected payload for a reply code: an ACCEPT's, or 0 for DEFER and REFUSE (R81). -/
def expectedPayload (p : Poll) (code : Nat) : Nat := if code = 1 then acceptPayload p else 0

/-- The header answers the poll: node address, reply kind, reply code and, for a piece, the offset echo (step 3). -/
def headerAnswers (x : Exchange) (frame : List Byte) : Bool :=
  frame[0]? == some (byte (nodeAddress x.node)) && frame[1]? == some (replyKind x.poll) &&
  decide (1 ≤ replyCode frame) && decide (replyCode frame ≤ 3) &&
  (match x.poll with
   | .piece _ _ offset _ => frame[3]? == some (byte offset)
   | _ => true)

/-- The identity that the payload of a probe reply spells, if its fields are in range (R86, R184). -/
def identityOf (payload : List Byte) : Option Identity :=
  match payload with
  | t1 :: t0 :: ch :: lp :: _ =>
    if 1 ≤ ch.toNat ∧ ch.toNat ≤ 16 ∧ 8 ≤ lp.toNat ∧ lp.toNat ≤ 128 then
      some ⟨word16 t1 t0, ch.toNat, lp.toNat⟩
    else none
  | _ => none

/-- The content test of an ACCEPT reply (step 6, R86). -/
def judgeContent (p : Poll) (frame : List Byte) : ExchangeOutcome :=
  match p with
  | .collect _ _ bit _ => if replyBit frame = bit then .ok else .duplicate
  | .value _ _ bit _ => if replyBit frame = bit then .ok else .crcError
  | .hold _ _ _ _ => .ok
  | .probe => if (identityOf (replyPayload p frame)).isSome then .ok else .crcError
  | .piece _ _ _ _ => .ok

/-- The outcome of a reply that is complete or ended short: the first test of Table 5-3 that fails decides (R85). -/
def judgeReply (x : Exchange) (bytes : List Byte) : ExchangeOutcome :=
  let frame := replyFrame x.poll bytes
  if replyComplete x.poll bytes = false then .crcError
  else if crcGood frame = false then .crcError
  else if headerAnswers x frame = false then .crcError
  else if declaredLength x.poll frame ≠ some (expectedPayload x.poll (replyCode frame)) then .badLength
  else if replyCode frame = 2 then .deferred
  else if replyCode frame = 3 then .refused
  else judgeContent x.poll frame

/-! ### Host port frames (Tables 11-1, 11-2, 12-4, 12-6) -/

/-- The twenty commands, in the order of Table 11-1. -/
inductive CommandName where
  | openStream
  | amendStream
  | closeStream
  | readStream
  | findStream
  | postValue
  | renewLeases
  | restartStream
  | readLoad
  | sendRequest
  | fetchRequest
  | cancelRequest
  | readNode
  | scanNodes
  | startTrunk
  | haltTrunk
  | setConfig
  | readConfig
  | readAttn
  | setAttnMask
  deriving DecidableEq, Repr

/-- The command code: 1 to 20 in the order of Table 11-1 (R185). -/
def CommandName.code : CommandName → Byte
  | .openStream => 1
  | .amendStream => 2
  | .closeStream => 3
  | .readStream => 4
  | .findStream => 5
  | .postValue => 6
  | .renewLeases => 7
  | .restartStream => 8
  | .readLoad => 9
  | .sendRequest => 10
  | .fetchRequest => 11
  | .cancelRequest => 12
  | .readNode => 13
  | .scanNodes => 14
  | .startTrunk => 15
  | .haltTrunk => 16
  | .setConfig => 17
  | .readConfig => 18
  | .readAttn => 19
  | .setAttnMask => 20

/-- A command code that names a command: 1 to 20 (R185). -/
def codeDefined (code : Byte) : Bool := decide (1 ≤ code.toNat) && decide (code.toNat ≤ 20)

/-- The result codes, in the order of Table 11-2. -/
inductive ResultCode where
  | ok
  | none
  | badCommand
  | badArgument
  | noSuch
  | notOwner
  | wrongState
  | conflict
  | tableFull
  | noSpace
  | noBudget
  | notSupported
  | queueFull
  | notReady
  | lineFault
  deriving DecidableEq, Repr

/-- A result code's byte: 0 to 14 in the order of Table 11-2 (R185). -/
def ResultCode.code : ResultCode → Byte
  | .ok => 0
  | .none => 1
  | .badCommand => 2
  | .badArgument => 3
  | .noSuch => 4
  | .notOwner => 5
  | .wrongState => 6
  | .conflict => 7
  | .tableFull => 8
  | .noSpace => 9
  | .noBudget => 10
  | .notSupported => 11
  | .queueFull => 12
  | .notReady => 13
  | .lineFault => 14

/-- A result frame, after the status byte: tag echo, result code, body length, body, CRC (Table 12-4). -/
def resultFrame (tag : Byte) (r : ResultCode) (body : List Byte) : List Byte :=
  withCrc ([tag, r.code] ++ be16 body.length ++ body)

/-- The empty response: tag echo 0, result code NONE, body length 0 and its CRC (R159). -/
def emptyResponse : List Byte := resultFrame 0 .none []

/-- The kind bytes of a transaction (Table 12-4). -/
def kindCommand : Byte := 0x5A

/-- See `kindCommand`. -/
def kindResult : Byte := 0xA5

/-- See `kindCommand`. -/
def kindPortReset : Byte := 0x3C

/-- The two bytes after the kind byte confirm a PORT_RESET (R163, Table 12-4). -/
def confirmed (sent : List Byte) : Bool := sent.take 2 == [0xC3, 0x69]

/-- The command that a COMMAND transaction carries, when its frame is complete and good (R156): the bytes reach the end
of the CRC, the body length is 0..264 and the CRC is good. Bytes beyond the frame are disregarded (R154). -/
def readCommandFrame (p : Port) (sent : List Byte) : Option Command :=
  match sent with
  | code :: tag :: hi :: lo :: rest =>
    let n := word16 hi lo
    if n ≤ 264 ∧ n + 2 ≤ rest.length ∧ crcGood (sent.take (6 + n)) = true then
      some ⟨p, code, tag, rest.take n⟩
    else none
  | _ => none

/-- A transaction whose bytes, kind byte first, are not taken (R154): no whole kind byte, a kind byte that names no
kind, an incomplete or bad command frame (R156), or a bad confirmation value (R163). -/
def notTaken (p : Port) (sent : List Byte) : Bool :=
  match sent with
  | [] => true
  | k :: rest =>
    if k = kindCommand then (readCommandFrame p rest).isNone
    else if k = kindPortReset then !confirmed rest
    else k != kindResult

/-! ### Codings of fields in result bodies (Table 12-6) -/

/-- The coding of a port (Table 12-6). -/
def portCode : Port → Nat
  | .a => 0
  | .b => 1

/-- The place of a stream state in Table 1-3. -/
def streamStateCode : StreamState → Nat
  | .active => 0
  | .suspended => 1
  | .faulted => 2
  | .closing => 3

/-- The place of a trunk state in Table 4-3. -/
def trunkStateCode : TrunkState → Nat
  | .off => 0
  | .syncing => 1
  | .running => 2
  | .draining => 3
  | .halted => 4
  | .faulted => 5

/-- The place of a node state in Table 7-3. -/
def nodeStateCode : NodeState → Nat
  | .unknown => 0
  | .present => 1
  | .absent => 2
  | .lost => 3

/-- The place of a request state in Table 8-2, where FREE is 0. -/
def reqStateCode : ReqState → Nat
  | .queued => 1
  | .active => 2
  | .cancelling => 3
  | .done => 4
  | .failed => 5

/-- 0 for an absent failure reason, then the order of Table 8-1. -/
def failReasonCode : Option FailReason → Nat
  | none => 0
  | some .refused => 1
  | some .nodeLost => 2
  | some .noAnswer => 3
  | some .deferLimit => 4

/-- 0 for an absent fault cause, 1 LFAULT_ASSERTED, 2 LINE_JAMMED. -/
def faultCauseCode : Option FaultCause → Nat
  | none => 0
  | some .lfaultAsserted => 1
  | some .lineJammed => 2

end Sys2Proof.Machine
end

