-- ==== Sys2Proof/Machine/Flags.lean ====
section
/-! DEFINITION. The indications a host sees without a command: attention reasons and masks, the attention part, the
ATTN line (Chapter 9) and the port status byte (R155, R185). -/

namespace Sys2Proof.Machine

/-- The attention reasons, in the order of Table 9-1. -/
inductive Reason where
  | missLimit
  | faulted
  | suspended
  | resumed
  | expired
  | amendApplied
  | requestDone
  | requestFailed
  | trunkRunning
  | trunkHalted
  | trunkFault
  | configApplied
  | scanDone
  | rosterChanged
  deriving DecidableEq, Repr

/-- A reason's place in Table 9-1, counted from 0. -/
def Reason.index : Reason → Nat
  | .missLimit => 0
  | .faulted => 1
  | .suspended => 2
  | .resumed => 3
  | .expired => 4
  | .amendApplied => 5
  | .requestDone => 6
  | .requestFailed => 7
  | .trunkRunning => 8
  | .trunkHalted => 9
  | .trunkFault => 10
  | .configApplied => 11
  | .scanDone => 12
  | .rosterChanged => 13

/-- The set that holds one reason. -/
def Reason.bit (r : Reason) : ReasonSet := BitVec.ofNat 14 (2 ^ r.index)

/-- What an attention entry is about (R147). -/
inductive Source where
  | global
  | request (id : ReqId)
  | stream (h : Handle)
  deriving DecidableEq, Repr

/-- A source's number: 0 GLOBAL, 1 + n REQUEST n, 9 + h STREAM h (Table 12-6). -/
def Source.index : Source → Fin 73
  | .global => 0
  | .request id => ⟨1 + id.val, by omega⟩
  | .stream h => ⟨9 + h.val, by omega⟩

/-- The value kept for a port. -/
def PerPort.get {α : Type} (v : PerPort α) : Port → α
  | .a => v.a
  | .b => v.b

/-- The values with the one of port `p` replaced. -/
def PerPort.put {α : Type} (v : PerPort α) (p : Port) (x : α) : PerPort α :=
  match p with
  | .a => { v with a := x }
  | .b => { v with b := x }

/-- The reasons held for a source; none when the set has no entry for it. -/
def AttnSet.entry (t : AttnSet) (src : Source) : ReasonSet := t[src.index.val]

/-- A reason raised to a set: an entry is created or the reason merged into the entry (R148). -/
def AttnSet.raise (t : AttnSet) (src : Source) (r : Reason) : AttnSet :=
  t.set src.index.val (t.entry src ||| r.bit) src.index.isLt

/-- The entry of a source removed. -/
def AttnSet.remove (t : AttnSet) (src : Source) : AttnSet := t.set src.index.val 0 src.index.isLt

/-- The entries present, in source order, as source number and reasons (R151). -/
def AttnSet.entries (t : AttnSet) : List (Fin 73 × ReasonSet) :=
  (List.finRange 73).filterMap fun i => if t[i.val] = 0 then none else some (i, t[i.val])

/-- The set without the entries whose source numbers are listed. -/
def AttnSet.without (t : AttnSet) (gone : List (Fin 73)) : AttnSet :=
  Vector.ofFn fun i => if gone.contains i then 0 else t[i.val]

/-- A stream or request reason, raised to the set of the owner (R148). -/
def State.raise (s : State) (p : Port) (src : Source) (r : Reason) : State :=
  { s with attn := s.attn.put p ((s.attn.get p).raise src r) }

/-- A global reason, raised to both sets (R148). -/
def State.raiseBoth (s : State) (r : Reason) : State :=
  (s.raise .a .global r).raise .b .global r

/-- The attention part of a port: some entry holds a reason whose enable is yes (R150). -/
def State.attnPart (s : State) (p : Port) : Bool :=
  (s.attn.get p).toList.any fun e => e &&& (s.ports.get p).mask != 0

/-- The port is RESULT_READY. -/
def HostPort.ready (h : HostPort) : Bool :=
  match h.state with
  | .resultReady _ => true
  | _ => false

/-- The ATTN line of a port is asserted: RESULT_READY, or the attention part (R150, R166). -/
def State.attnLine (s : State) (p : Port) : Bool := s.attnPart p || (s.ports.get p).ready

/-- The port state's value in the status byte (Table 12-5). -/
def PortState.code : PortState → Nat
  | .idle => 0
  | .working => 1
  | .resultReady _ => 2

/-- The port status byte (R155, Table 12-5). -/
def State.statusByte (s : State) (p : Port) : Byte :=
  let h := s.ports.get p
  byte (128 + 16 * h.state.code + 8 * (s.attnPart p).toNat + 4 * h.dropped.toNat + 2 * h.lost.toNat +
    h.frameError.toNat)

/-! ### The line bits of TXD (R59, R182) -/

/-- A frame's line bits: its bytes in order, each a byte-time long. -/
def lineBits (frame : List Byte) : List LineBit := frame.flatMap byteLineBits

/-- TXEN is asserted from the first line bit of a frame to its last (R59). -/
def State.txen (s : State) : Bool := s.pins.tx.isSome

/-- The line bit on TXD `n` line bits after the frame in transmission began; none is the idle level, at which TXD
rests while TXEN is released and after the frame's last bit (R59, R182). -/
def State.txd (s : State) (n : Nat) : Option LineBit := s.pins.tx.bind fun frame => (lineBits frame)[n]?

end Sys2Proof.Machine
end

