-- ==== Sys2Proof/Machine/Operands.lean ====
section
/-! DEFINITION. The arguments of the twenty commands as their bodies spell them (Tables 11-1 and 12-6, R186). A reader
answers `none` exactly when the body fails the form check of R167: too short, too long, or a coding that names no value
of its field. The ranges of the command's own BAD_ARGUMENT check come after it. -/

namespace Sys2Proof.Machine

/-! ### Codings of single fields (Table 12-6) -/

/-- A direction: 0 COLLECT, 1 DELIVER. -/
def readDirection (b : Byte) : Option Direction :=
  if b = 0 then some .collect else if b = 1 then some .deliver else none

/-- A request kind: 0 PARAM_READ, 1 PARAM_WRITE. -/
def readReqKind (b : Byte) : Option ReqKind :=
  if b = 0 then some .read else if b = 1 then some .write else none

/-- A yes or no: 0 or 1. -/
def readBool (b : Byte) : Option Bool :=
  if b = 0 then some false else if b = 1 then some true else none

/-- A period is coded by the number 1..128. -/
def readPeriod (b : Byte) : Option Nat :=
  if 1 ≤ b.toNat ∧ b.toNat ≤ 128 then some b.toNat else none

/-- A phase as a command names it. -/
inductive PhaseArg where
  | any
  | fixed (phase : Nat)
  deriving DecidableEq, Repr

/-- A phase is coded 0..127, or 255 for ANY. -/
def readPhase (b : Byte) : Option PhaseArg :=
  if b = 255 then some .any else if b.toNat ≤ 127 then some (.fixed b.toNat) else none

/-- A miss limit is coded 1..255, or 0 for absent. -/
def readMissLimit (b : Byte) : Option Nat := if b = 0 then none else some b.toNat

/-- A lease is coded 16..65535, or 0 for absent; the codings 1..15 name no lease (log entry 8). -/
def readLease (hi lo : Byte) : Option (Option Nat) :=
  let n := word16 hi lo
  if n = 0 then some none else if 16 ≤ n then some (some n) else none

/-- The handle a byte names; 64 and more name no record (R167). -/
def readHandle (b : Byte) : Option Handle := if h : b.toNat < 64 then some ⟨b.toNat, h⟩ else none

/-- The request id a byte names. -/
def readReqId (b : Byte) : Option ReqId := if h : b.toNat < 8 then some ⟨b.toNat, h⟩ else none

/-! ### Argument records -/

/-- The arguments of OPEN_STREAM (R168). -/
structure OpenArgs where
  node : Nat
  channel : Nat
  direction : Direction
  period : Nat
  phase : PhaseArg
  len : Nat
  retryLimit : Nat
  missLimit : Option Nat
  lease : Option Nat
  deriving DecidableEq, Repr

/-- The body of OPEN_STREAM: 10 bytes. -/
def readOpen : List Byte → Option OpenArgs
  | [nd, ch, di, pe, ph, l, rl, ml, le1, le0] => do
    let direction ← readDirection di
    let period ← readPeriod pe
    let phase ← readPhase ph
    let lease ← readLease le1 le0
    some ⟨nd.toNat, ch.toNat, direction, period, phase, l.toNat, rl.toNat, readMissLimit ml, lease⟩
  | _ => none

/-- The arguments of AMEND_STREAM (R169): each field is not named (`none`) or named; a miss limit or a lease may be
named absent. -/
structure AmendArgs where
  handle : Byte
  period : Option Nat
  phase : Option PhaseArg
  len : Option Nat
  retryLimit : Option Nat
  missLimit : Option (Option Nat)
  lease : Option (Option Nat)
  deriving DecidableEq, Repr

/-- The value of a field when its bit of the named-field byte is set; a field that is not named is disregarded (R186).
The outer `none` is a form fault of a named field. -/
def named {α : Type} (isNamed : Bool) (value : Option α) : Option (Option α) :=
  if isNamed then value.map some else some none

/-- The body of AMEND_STREAM: 9 bytes; a named-field byte with a bit above its six fields is a form fault (R186). -/
def readAmend : List Byte → Option AmendArgs
  | [hd, nf, pe, ph, l, rl, ml, le1, le0] =>
    if nf.toNat < 64 then do
      let period ← named (nf.getLsbD 0) (readPeriod pe)
      let phase ← named (nf.getLsbD 1) (readPhase ph)
      let len ← named (nf.getLsbD 2) (some l.toNat)
      let retryLimit ← named (nf.getLsbD 3) (some rl.toNat)
      let missLimit ← named (nf.getLsbD 4) (some (readMissLimit ml))
      let lease ← named (nf.getLsbD 5) (readLease le1 le0)
      some ⟨hd, period, phase, len, retryLimit, missLimit, lease⟩
    else none
  | _ => none

/-- The body of a command that names a handle alone, or an id alone, or an address alone. -/
def readOneByte : List Byte → Option Byte
  | [b] => some b
  | _ => none

/-- The body of READ_STREAM: a handle and the clear-counters flag. -/
def readReadStream : List Byte → Option (Byte × Bool)
  | [hd, fl] => (readBool fl).map fun f => (hd, f)
  | _ => none

/-- The body of FIND_STREAM: a node, a channel and a direction. -/
def readFind : List Byte → Option (Nat × Nat × Direction)
  | [nd, ch, di] => (readDirection di).map fun d => (nd.toNat, ch.toNat, d)
  | _ => none

/-- The body of POST_VALUE: a handle, then the value (R172). -/
def readPost : List Byte → Option (Byte × List Byte)
  | hd :: value => some (hd, value)
  | [] => none

/-- The body of READ_LOAD: a first index and a count. -/
def readReadLoad : List Byte → Option (Nat × Nat)
  | [fi, ct] => some (fi.toNat, ct.toNat)
  | _ => none

/-- The arguments of SEND_REQUEST (R174). -/
structure SendArgs where
  kind : ReqKind
  node : Nat
  param : Nat
  length : Nat
  data : List Byte
  deriving DecidableEq, Repr

/-- The body of SEND_REQUEST: kind, node, parameter index, length, then the write data. -/
def readSend : List Byte → Option SendArgs
  | k :: nd :: p1 :: p0 :: l1 :: l0 :: data =>
    (readReqKind k).map fun kind => ⟨kind, nd.toNat, word16 p1 p0, word16 l1 l0, data⟩
  | _ => none

/-- The arguments of SET_CONFIG: each of the five fields named or not (R178). -/
structure ConfigArgs where
  c : Option Nat
  a : Option Nat
  w : Option Nat
  threshold : Option Nat
  interval : Option Nat
  deriving DecidableEq, Repr

/-- The body of SET_CONFIG: the named-field byte and 7 bytes of values (R186). -/
def readSetConfig : List Byte → Option ConfigArgs
  | [nf, c1, c0, a1, a0, w, th, iv] =>
    if nf.toNat < 32 then
      some ⟨if nf.getLsbD 0 then some (word16 c1 c0) else none, if nf.getLsbD 1 then some (word16 a1 a0) else none,
        if nf.getLsbD 2 then some w.toNat else none, if nf.getLsbD 3 then some th.toNat else none,
        if nf.getLsbD 4 then some iv.toNat else none⟩
    else none
  | _ => none

/-- The body of SET_ATTN_MASK: two bytes whose bits 14 and 15 are 0 (Table 12-6). -/
def readMask : List Byte → Option ReasonSet
  | [m1, m0] => if word16 m1 m0 < 16384 then some (BitVec.ofNat 14 (word16 m1 m0)) else none
  | _ => none

/-- The body of a command without arguments is empty. -/
def readNothing : List Byte → Option Unit
  | [] => some ()
  | _ => none

/-! ### Ranges of the arguments (R168) -/

/-- The stream periods. -/
def periods : List Nat := [1, 2, 4, 8, 16, 32, 64, 128]

/-- The phase named, if any, is 0..period − 1. -/
def PhaseArg.within (ph : PhaseArg) (period : Nat) : Bool :=
  match ph with
  | .any => true
  | .fixed p => decide (p < period)

/-- Every argument of OPEN_STREAM is in its range; the codings leave the miss limit and the lease in theirs. -/
def OpenArgs.inRange (g : OpenArgs) : Bool :=
  decide (1 ≤ g.node) && decide (g.node ≤ 62) && decide (g.channel ≤ 15) && periods.contains g.period &&
  g.phase.within g.period && decide (1 ≤ g.len) && decide (g.len ≤ 128) && decide (g.retryLimit ≤ 3)

/-- AMEND_STREAM names no field. -/
def AmendArgs.namesNothing (g : AmendArgs) : Bool :=
  g.period.isNone && g.phase.isNone && g.len.isNone && g.retryLimit.isNone && g.missLimit.isNone && g.lease.isNone

/-- A field is not named or its value passes. -/
def inRangeIfNamed {α : Type} (o : Option α) (test : α → Bool) : Bool :=
  match o with
  | none => true
  | some v => test v

/-- AMEND_STREAM's own BAD_ARGUMENT check passes: some field is named, each named field is in the range it has in
OPEN_STREAM, and a named phase fits the amended period (R33, R169). -/
def AmendArgs.inRange (g : AmendArgs) (applied : Params) : Bool :=
  !g.namesNothing && inRangeIfNamed g.period periods.contains &&
  inRangeIfNamed g.phase (fun ph => ph.within (g.period.getD applied.period)) &&
  inRangeIfNamed g.len (fun l => decide (1 ≤ l) && decide (l ≤ 128)) &&
  inRangeIfNamed g.retryLimit (fun r => decide (r ≤ 3))

/-- SET_CONFIG names no field. -/
def ConfigArgs.namesNothing (g : ConfigArgs) : Bool :=
  g.c.isNone && g.a.isNone && g.w.isNone && g.threshold.isNone && g.interval.isNone

/-- Every named field of SET_CONFIG is in its range (Table 2-4). -/
def ConfigArgs.inRange (g : ConfigArgs) : Bool :=
  !g.namesNothing && inRangeIfNamed g.c (fun c => decide (250 ≤ c) && decide (c ≤ 8000) && decide (c % 50 = 0)) &&
  inRangeIfNamed g.a (fun a => decide (100 ≤ a) && decide (a ≤ 4000)) &&
  inRangeIfNamed g.w (fun w => decide (2 ≤ w) && decide (w ≤ 40)) &&
  inRangeIfNamed g.threshold (fun t => decide (2 ≤ t) && decide (t ≤ 15)) &&
  inRangeIfNamed g.interval [8, 16, 32, 64, 128].contains

end Sys2Proof.Machine
end

