-- ==== Sys2Proof/Machine/Ops.lean ====
section
/-! DEFINITION. The named operations that the meanings share: the Value Store's memory, the free block set, the Load
Map, the stream and request tables, the ports and the arbiter. -/

namespace Sys2Proof.Machine

/-- A saturating counter counts one (scope 5.5). -/
def satInc (n : Nat) : Nat := min (n + 1) 65535

/-! ### The Value Store's memory (R42, R47) -/

/-- The byte at an address; an unlisted address reads as 0 (log entry 3). -/
def Memory.read : Memory → Nat → Byte
  | [], _ => 0
  | (a, v) :: rest, x => if a = x then v else Memory.read rest x

/-- The memory with one byte written, in canonical form. -/
def Memory.write : Memory → Nat → Byte → Memory
  | [], x, v => if v = 0 then [] else [(x, v)]
  | (a, w) :: rest, x, v =>
    if x < a then (if v = 0 then (a, w) :: rest else (x, v) :: (a, w) :: rest)
    else if x = a then (if v = 0 then rest else (x, v) :: rest)
    else (a, w) :: Memory.write rest x v

/-- The canonical form: addresses strictly rising, and no entry that an unlisted address reads as. -/
def Memory.wf : Memory → Bool
  | [] => true
  | (a, v) :: rest => v != 0 && rest.all (fun c => decide (a < c.1)) && Memory.wf rest

/-- Bytes written at addresses, pairwise, until either list ends. -/
def Memory.writeAll (m : Memory) (addrs : List Nat) (values : List Byte) : Memory :=
  (addrs.zip values).foldl (fun m c => Memory.write m c.1 c.2) m

/-- The bytes at addresses. -/
def Memory.readAll (m : Memory) (addrs : List Nat) : List Byte := addrs.map (Memory.read m)

/-- The addresses of the bytes of blocks, in the order of the block list (R47). -/
def blockAddrs (blocks : List Block) : List Nat :=
  blocks.flatMap fun b => (List.range 32).map fun o => 32 * b.val + o

/-- The blocks of one half of a block list (R44). -/
def halfBlocks (blocks : List Block) : Half → List Block
  | .first => blocks.take (blocks.length / 2)
  | .second => blocks.drop (blocks.length / 2)

/-- The other half. -/
def Half.other : Half → Half
  | .first => .second
  | .second => .first

/-- The addresses of a value of length `len` stored in a half (R47). -/
def valueAddrs (blocks : List Block) (half : Half) (len : Nat) : List Nat :=
  (blockAddrs (halfBlocks blocks half)).take len

/-- The addresses of bytes `offset` to `offset + n − 1` of a request's data area (R58). -/
def areaAddrs (id : ReqId) (offset n : Nat) : List Nat :=
  (List.range n).map fun i => 32 * (320 + 8 * id.val) + offset + i

/-- The store with bytes written. -/
def State.storeBytes (s : State) (addrs : List Nat) (values : List Byte) : State :=
  { s with store := { s.store with mem := Memory.writeAll s.store.mem addrs values } }

/-- The bytes of the store at addresses. -/
def State.loadBytes (s : State) (addrs : List Nat) : List Byte := Memory.readAll s.store.mem addrs

/-! ### The free block set (R43 to R46) -/

/-- The blocks a stream of length `len` needs: two halves of whole blocks (R44). -/
def blocksNeeded (len : Nat) : Nat := 2 * ((len + 31) / 32)

/-- A block joins the free block set, which is kept in ascending order, each member once. -/
def insertBlock (b : Block) : List Block → List Block
  | [] => [b]
  | x :: rest => if b < x then b :: x :: rest else if b = x then x :: rest else x :: insertBlock b rest

/-- Blocks released to the free block set (R46). -/
def State.releaseBlocks (s : State) (blocks : List Block) : State :=
  { s with store := { s.store with free := blocks.foldl (fun free b => insertBlock b free) s.store.free } }

/-- The lowest-numbered free blocks leave the free block set (R44). -/
def State.takeBlocks (s : State) (n : Nat) : State :=
  { s with store := { s.store with free := s.store.free.drop n } }

/-! ### Slot costs, budgets and the Load Map (Chapter 2) -/

/-- The slot cost of a stream (R26). -/
def slotCost (w len : Nat) : Nat := 13 + len + w

/-- The cyclic budget of a cycle length and a reserve (R27). -/
def budget (c a : Nat) : Nat := c - 18 - a

/-- The applied budget. -/
def CycleUnit.appliedBudget (u : CycleUnit) : Nat := budget u.applied.c u.applied.a

/-- The staged budget, 0 when nothing is staged. -/
def CycleUnit.stagedBudget (u : CycleUnit) : Nat :=
  match u.staged with
  | some g => budget g.c g.a
  | none => 0

/-- The admission limit: the applied budget, or the smaller of applied and staged (R27). -/
def CycleUnit.admissionLimit (u : CycleUnit) : Nat :=
  match u.staged with
  | some g => min u.appliedBudget (budget g.c g.a)
  | none => u.appliedBudget

/-- A period and a phase fall due at an index or in a cycle. -/
def dueAt (period phase k : Nat) : Bool := k % period == phase

/-- A slot cost added at the indices where a period and a phase fall due (R29). -/
def addCharge (load : Vector Nat 128) (period phase cost : Nat) : Vector Nat 128 :=
  Vector.ofFn fun k => load[k.val] + if dueAt period phase k.val then cost else 0

/-- A charge removed (R35). -/
def removeCharge (load : Vector Nat 128) (period phase cost : Nat) : Vector Nat 128 :=
  Vector.ofFn fun k => load[k.val] - if dueAt period phase k.val then cost else 0

/-- A charge is admissible: at every index of its set the entry plus the cost is within the limit (R29). -/
def admissible (load : Vector Nat 128) (period phase cost limit : Nat) : Bool :=
  (List.finRange 128).all fun k => !dueAt period phase k.val || decide (load[k.val] + cost ≤ limit)

/-- The largest value of entry plus cost over the indices where a phase falls due (R31). -/
def worstEntry (load : Vector Nat 128) (period cost phase : Nat) : Nat :=
  (((List.finRange 128).filter fun k => dueAt period phase k.val).map fun k => load[k.val] + cost).foldl max 0

/-- The phase chosen for ANY: the candidate whose largest value is smallest, the lowest of equals (R31). -/
def choosePhase (load : Vector Nat 128) (period cost : Nat) : Nat :=
  (List.range period).foldl
    (fun best p => if worstEntry load period cost p < worstEntry load period cost best then p else best) 0

/-- The phase a command asks for: the named one, or the one chosen for ANY. -/
def resolvePhase (load : Vector Nat 128) (period cost : Nat) : PhaseArg → Nat
  | .any => choosePhase load period cost
  | .fixed p => p

/-- The largest Load Map entry (R40). -/
def largestEntry (load : Vector Nat 128) : Nat := load.toList.foldl max 0

/-- Every entry is within a budget (R37). -/
def fitsBudget (load : Vector Nat 128) (b : Nat) : Bool := load.toList.all fun e => decide (e ≤ b)

/-- The Load Map replaced. -/
def State.setLoad (s : State) (load : Vector Nat 128) : State := { s with table := { s.table with load := load } }

/-- A charge added to the Load Map, at the applied W. -/
def State.charge (s : State) (q : Params) : State :=
  s.setLoad (addCharge s.table.load q.period q.phase (slotCost s.trunk.applied.w q.len))

/-- A charge removed from the Load Map, at the applied W (R35). -/
def State.discharge (s : State) (q : Params) : State :=
  s.setLoad (removeCharge s.table.load q.period q.phase (slotCost s.trunk.applied.w q.len))

/-! ### The stream table -/

/-- The handles, ascending. -/
def handles : List Handle := List.finRange 64

/-- The record at a handle, if it is live. -/
def State.record (s : State) (h : Handle) : Option StreamRecord := s.table.records[h.val]

/-- The record at a handle replaced. -/
def State.setRecord (s : State) (h : Handle) (r : Option StreamRecord) : State :=
  { s with table := { s.table with records := s.table.records.set h.val r h.isLt } }

/-- A live record changed. -/
def State.updRecord (s : State) (h : Handle) (f : StreamRecord → StreamRecord) : State :=
  match s.record h with
  | some r => s.setRecord h (some (f r))
  | none => s

/-- The record at a handle is live and ACTIVE. -/
def State.isActive (s : State) (h : Handle) : Bool :=
  match s.record h with
  | some r => r.state == .active
  | none => false

/-- The key of a record is the one named (R4). -/
def StreamRecord.hasKey (r : StreamRecord) (n : Node) (channel : Nat) (d : Direction) : Bool :=
  r.node == n && r.channel == channel && r.direction == d

/-- The live record that holds a key (R5). -/
def State.findKey (s : State) (n : Node) (channel : Nat) (d : Direction) : Option Handle :=
  handles.find? fun h =>
    match s.record h with
    | some r => r.hasKey n channel d
    | none => false

/-- The free handles, ascending. -/
def State.freeHandles (s : State) : List Handle := handles.filter fun h => (s.record h).isNone

/-- Neither attention set holds an entry for the handle. -/
def State.cleanHandle (s : State) (h : Handle) : Bool :=
  (s.attn.a).entry (.stream h) == 0 && (s.attn.b).entry (.stream h) == 0

/-- The handle that OPEN_STREAM takes (R3): the lowest free one without attention entries, else the lowest free one. -/
def State.chooseHandle (s : State) : Option Handle :=
  match s.freeHandles.find? s.cleanHandle with
  | some h => some h
  | none => s.freeHandles.head?

/-- The attention entries of a handle removed from both sets (R3). -/
def State.clearHandleAttn (s : State) (h : Handle) : State :=
  { s with attn := ⟨s.attn.a.remove (.stream h), s.attn.b.remove (.stream h)⟩ }

/-! ### The roster -/

/-- The nodes, in ascending order of address. -/
def nodes : List Node := List.finRange 62

/-- A node's roster entry. -/
def State.node (s : State) (n : Node) : RosterEntry := s.roster[n.val]

/-- A node's roster entry replaced. -/
def State.setNode (s : State) (n : Node) (e : RosterEntry) : State :=
  { s with roster := s.roster.set n.val e n.isLt }

/-! ### The cyclic scheduler's lists -/

/-- A record leaves the due list and the retry list, and its service entry becomes EXCUSED, whatever its disposition
other than SERVED (R97). R94, R109 and R113 have the entries keep their dispositions from the settlement to the next
mark; R97 is followed there too, in ACYCLIC and in HALTED, which is the model's choice (DESIGN CHOICE, log entry 27).
-/
def State.excuse (s : State) (h : Handle) : State :=
  { s with sched :=
    { due := s.sched.due.filter (· != h)
      retry := s.sched.retry.filter (· != h)
      entries := s.sched.entries.map fun e =>
        if e.handle = h ∧ e.disposition ≠ .served then { e with disposition := .excused } else e } }

/-- The service entry of a record changed. -/
def State.updEntry (s : State) (h : Handle) (f : ServiceEntry → ServiceEntry) : State :=
  { s with sched := { s.sched with entries := s.sched.entries.map fun e => if e.handle = h then f e else e } }

/-! ### The request table and the acyclic queue -/

/-- The request ids, ascending. -/
def reqIds : List ReqId := List.finRange 8

/-- The request at an id, if the record is not FREE. -/
def State.request (s : State) (id : ReqId) : Option Request := s.acyclic.requests[id.val]

/-- The request record at an id replaced. -/
def State.setRequest (s : State) (id : ReqId) (q : Option Request) : State :=
  { s with acyclic := { s.acyclic with requests := s.acyclic.requests.set id.val q id.isLt } }

/-- The lowest FREE request id (R131). -/
def State.freeReqId (s : State) : Option ReqId := reqIds.find? fun id => (s.request id).isNone

/-- A request leaves the acyclic queue, and its id the deferred set (R132, R133). -/
def State.leaveQueue (s : State) (id : ReqId) : State :=
  { s with acyclic := { s.acyclic with queue := s.acyclic.queue.filter (· != id),
                                       deferred := s.acyclic.deferred.filter (· != id) } }

/-- A request record becomes FREE. -/
def State.freeRequest (s : State) (id : ReqId) : State := (s.leaveQueue id).setRequest id none

/-- A request becomes FAILED: it leaves the queue and REQUEST_FAILED is raised to its owner (R139). -/
def State.failRequest (s : State) (id : ReqId) (q : Request) (why : FailReason) : State :=
  ((s.leaveQueue id).setRequest id (some { q with state := .failed, reason := some why })).raise q.owner
    (.request id) .requestFailed

/-- A place in a list counted from 1 at the head, or 0 when not listed (Table 12-6). -/
def placeIn {α : Type} [DecidableEq α] (l : List α) (x : α) : Nat := if x ∈ l then l.idxOf x + 1 else 0

/-! ### The exchange in flight -/

/-- The exchange in flight, if any (R78). -/
def EngineState.inFlight : EngineState → Option Exchange
  | .polling x => some x
  | .awaiting x => some x
  | .receiving x _ => some x
  | .idle => none
  | .quieting _ => none

/-- The record a poll serves. -/
def Poll.handle? : Poll → Option Handle
  | .collect h _ _ _ => some h
  | .value h _ _ _ => some h
  | .hold h _ _ _ => some h
  | .probe => none
  | .piece _ _ _ _ => none

/-- The request a poll serves. -/
def Poll.reqId? : Poll → Option ReqId
  | .piece id _ _ _ => some id
  | _ => none

/-- An exchange of the record is in flight (R12). -/
def State.recordInFlight (s : State) (h : Handle) : Bool :=
  match s.engine.state.inFlight with
  | some x => x.poll.handle? == some h
  | none => false

/-- A piece of the request is in flight (R134). -/
def State.requestInFlight (s : State) (id : ReqId) : Bool :=
  match s.engine.state.inFlight with
  | some x => x.poll.reqId? == some id
  | none => false

/-- The line is busy: a byte is in reception on RXD, stray or of a reply, or the engine is QUIETING (R87; what is
followed of RXD is log entry 22). -/
def State.lineBusy (s : State) : Bool :=
  s.pins.rxBusy ||
  match s.engine.state with
  | .quieting _ => true
  | _ => false

/-! ### Ports, results and the arbiter (Chapter 10) -/

/-- A port changed. -/
def State.updPort (s : State) (p : Port) (f : HostPort → HostPort) : State :=
  { s with ports := s.ports.put p (f (s.ports.get p)) }

/-- A result composed: it is placed in the response holder and the port becomes RESULT_READY (R158). -/
def State.compose (s : State) (p : Port) (tag : Byte) (r : ResultCode) (body : List Byte) : State :=
  s.updPort p fun h => { h with state := .resultReady (resultFrame tag r body) }

/-- What an owner answers: a result, or that the command is parked (R162). -/
inductive Answer where
  | reply (r : ResultCode) (body : List Byte)
  | park (k : ParkKind)
  deriving DecidableEq, Repr

/-- The command the arbiter takes next, when it is port `p`'s and passes the test on its code; with it the state in
which the command no longer waits (R160). -/
def State.takeCommand (s : State) (p : Port) (wanted : Byte → Bool) : Option (Command × State) :=
  match s.arbiter.waiting with
  | [] => none
  | c :: rest =>
    if c.port = p ∧ wanted c.code = true then some (c, { s with arbiter := { s.arbiter with waiting := rest } })
    else none

/-- An owner's answer delivered: a result into the port's response holder, or the command parked, the port staying
WORKING (R158, R162). -/
def State.deliver (s : State) (c : Command) : Answer → State
  | .reply r body => s.compose c.port c.tag r body
  | .park k => { s with arbiter := { s.arbiter with parked := some ⟨k, c.port, c.tag, false⟩ } }

/-- A command's whole step: the arbiter takes it and passes it to its owner, who acts at once, judging the body, and
answers (R160, R167). When no such command is the arbiter's next, nothing happens (log entry 2). -/
def State.serve (s : State) (p : Port) (name : CommandName) (owner : Port → List Byte → State → State × Answer) :
    State :=
  match s.takeCommand p (· == name.code) with
  | none => s
  | some (c, s1) => (owner p c.body s1).1.deliver c (owner p c.body s1).2

/-- The parked command, answered at the end of its exchange when it waited for this; an orphan's result is discarded
(R162, R164). -/
def State.answerParked (s : State) (waited : ParkKind → Bool) (body : ParkKind → List Byte) : State :=
  match s.arbiter.parked with
  | none => s
  | some k =>
    if waited k.kind = true then
      let s1 := { s with arbiter := { s.arbiter with parked := none } }
      if k.orphan then s1 else s1.compose k.port k.tag .ok (body k.kind)
    else s

/-! ### Freeing and retiring stream records (R12, R13, R15, R20) -/

/-- The stream count of a node less one (R13, R124). -/
def State.countStreamOut (s : State) (n : Node) : State :=
  s.setNode n { s.node n with streams := (s.node n).streams - 1 }

/-- A record freed (R13): its charge, its blocks, its stream count and its key are released; the scheduler passes over
it (R97). -/
def State.freeRecord (s : State) (h : Handle) (r : StreamRecord) : State :=
  ((((s.discharge r.params).releaseBlocks r.blocks).countStreamOut r.node).setRecord h none).excuse h

/-- A record's pending amendment released: its charge removed and its block list, if it has one, returned (R20, R34). -/
def State.dropAmendment (s : State) (h : Handle) (r : StreamRecord) : State :=
  match r.amendment with
  | none => s
  | some am =>
    ((s.discharge am.params).releaseBlocks (am.blocks.getD [])).setRecord h (some { r with amendment := none })

/-- A live record retired (R12): any pending amendment is dropped, and then the record is freed, or becomes CLOSING
when its exchange is in flight. A CLOSING record is not retired a second time. -/
def State.retire (s : State) (h : Handle) (r : StreamRecord) : State :=
  if r.state = .closing then s
  else
    let s1 := s.dropAmendment h r
    let r1 := { r with amendment := none }
    if s.recordInFlight h then (s1.setRecord h (some { r1 with state := .closing })).excuse h
    else s1.freeRecord h r1

/-! ### Cancelling requests (R141, R146) -/

/-- A request cancelled: FREE at once, or CANCELLING when its piece is in flight; a CANCELLING request stays so. -/
def State.cancel (s : State) (id : ReqId) (q : Request) : State :=
  if q.state = .cancelling then s
  else if q.state = .active ∧ s.requestInFlight id = true then
    (s.leaveQueue id).setRequest id (some { q with state := .cancelling })
  else s.freeRequest id

end Sys2Proof.Machine
end

