-- ==== Sys2Proof/Machine/RosterOps.lean ====
section
/-! DEFINITION. What the Node Roster does with the engine's reports (R117 to R119), and what a loss or a recovery of a
node does to its stream records and requests (R8, R9, R121, R122, R143). -/

namespace Sys2Proof.Machine

/-- An ACTIVE record of a lost node becomes SUSPENDED, leaves the lists and raises SUSPENDED to its owner (R8). -/
def State.suspendRecord (n : Node) (s : State) (h : Handle) : State :=
  match s.record h with
  | none => s
  | some r =>
    if r.node = n ∧ r.state = .active then
      ((s.setRecord h (some { r with state := .suspended })).excuse h).raise r.owner (.stream h) .suspended
    else s

/-- A SUSPENDED record of a recovered node becomes ACTIVE with sequence bit 0 and resync pending, and raises RESUMED to
its owner (R9). -/
def State.resumeRecord (n : Node) (s : State) (h : Handle) : State :=
  match s.record h with
  | none => s
  | some r =>
    if r.node = n ∧ r.state = .suspended then
      (s.setRecord h (some { r with state := .active, seqBit := false, resync := true })).raise r.owner (.stream h)
        .resumed
    else s

/-- A QUEUED or ACTIVE request to a lost node becomes FAILED with NODE_LOST (R143). -/
def State.loseRequest (n : Node) (s : State) (id : ReqId) : State :=
  match s.request id with
  | none => s
  | some q =>
    if q.node = n ∧ (q.state = .queued ∨ q.state = .active) then s.failRequest id q .nodeLost else s

/-- The effects of a node becoming LOST on every record and request (R121). -/
def State.nodeLost (s : State) (n : Node) : State :=
  reqIds.foldl (State.loseRequest n) (handles.foldl (State.suspendRecord n) s)

/-- The effects of a node leaving LOST on every record (R122). -/
def State.nodeRecovered (s : State) (n : Node) : State := handles.foldl (State.resumeRecord n) s

/-- An unanswered report now would make the node LOST: its count then equals the silence threshold and it is not LOST
already (R118). -/
def State.lossDue (s : State) (n : Node) : Bool :=
  (s.node n).state != .lost && (s.node n).failures + 1 == s.trunk.applied.threshold

/-- An answered report: failures 0, state PRESENT, the identity replaced if a probe brought one; a change of state
raises ROSTER_CHANGED to both ports, and a recovery resumes the node's streams (R115, R117). -/
def State.reportAnswered (s : State) (n : Node) (identity : Option Identity) : State :=
  let e := s.node n
  let s1 := s.setNode n { e with state := .present, failures := 0, identity := identity.or e.identity }
  let s2 := if e.state = .present then s1 else s1.raiseBoth .rosterChanged
  if e.state = .lost then s2.nodeRecovered n else s2

/-- An unanswered report for a stream poll or a piece (R118). -/
def State.reportUnanswered (s : State) (n : Node) : State :=
  let e := s.node n
  let failures := min (e.failures + 1) 15
  if s.lossDue n = true then
    ((s.setNode n { e with failures := failures, state := .lost }).raiseBoth .rosterChanged).nodeLost n
  else s.setNode n { e with failures := failures }

/-- An unanswered probe makes an UNKNOWN entry ABSENT and changes nothing else (R119). -/
def State.reportUnansweredProbe (s : State) (n : Node) : State :=
  let e := s.node n
  if e.state = .unknown then (s.setNode n { e with state := .absent }).raiseBoth .rosterChanged else s

/-- The report of a stream poll or a piece (R91, Table 5-4). -/
def State.report (s : State) (n : Node) (o : ExchangeOutcome) : State :=
  if o.answered then s.reportAnswered n none else s.reportUnanswered n

end Sys2Proof.Machine
end

