-- ==== Sys2Proof/Machine/TrunkOps.lean ====
section
/-! DEFINITION. The Cycle Unit's shared operations: when an event can come, the phases of a cycle and the settlement
of its misses, staged configuration, marks, entry to HALTED and to FAULTED, trunk restart (Chapters 4 and 6). -/

namespace Sys2Proof.Machine

/-- The Cycle Unit changed. -/
def State.updTrunk (s : State) (f : CycleUnit → CycleUnit) : State := { s with trunk := f s.trunk }

/-- The frame on TXD replaced; `none` releases TXEN (R59). -/
def State.setTx (s : State) (tx : Option (List Byte)) : State := { s with pins := { s.pins with tx := tx } }

/-- Whether a byte is in reception on RXD, replaced (R87). -/
def State.setRxd (s : State) (receiving : Bool) : State := { s with pins := { s.pins with rxBusy := receiving } }

/-- The engine's state replaced. -/
def State.setEngine (s : State) (e : EngineState) : State := { s with engine := { s.engine with state := e } }

/-- The trunk runs a cycle: RUNNING, or DRAINING. -/
def State.inCycle (s : State) : Bool := s.trunk.state == .running || s.trunk.state == .draining

/-- The trunk is stopped: OFF, HALTED or FAULTED. -/
def State.stopped (s : State) : Bool :=
  s.trunk.state == .off || s.trunk.state == .halted || s.trunk.state == .faulted

/-! ### When an event can come (log entry 4) -/

/-- A scheduler has the trunk and the engine is ready, so that a start comes at the present moment, before any later
event (R67, R78, R98, R106, R126, R133). -/
def State.startReady (s : State) : Bool :=
  (s.trunk.phase == .cyclic || s.trunk.phase == .retry || s.trunk.phase == .probes || s.trunk.phase == .pieces) &&
  s.engine.state == .idle && !s.pins.rxBusy

/-- The latest moment at which the engine stays in its state (R82, R85, R89). -/
def State.engineDeadline (s : State) : Option Nat :=
  match s.engine.state with
  | .idle => none
  | .polling x => some x.pollEnd
  | .awaiting x => some (x.pollEnd + s.trunk.applied.w)
  | .receiving x _ => some x.slotEnd
  | .quieting slotEnd => some (slotEnd + 16)

/-- A moment is no later than a bound, when there is one. -/
def notAfter (m : Nat) : Option Nat → Bool
  | none => true
  | some d => decide (m ≤ d)

/-- The present moment can come to be `m`, in byte-times from the beginning of the last mark: it is not past, no start
comes before it, and neither the engine, nor the timer, nor the mark in transmission (8 byte-times) has an event due
earlier. Events due at one moment come in either order, as the queue orders them: when the engine becomes ready
exactly at C in CYCLIC or RETRY, no rule fixes the order of the scheduler's turn (crowding out, settlement) and the
mark or drain end due at C, and with the mark or drain end first the cycle passes unsettled (R70, R73; DESIGN CHOICE,
log entry 28). -/
def State.reaches (s : State) (m : Nat) : Bool :=
  decide (s.trunk.clock ≤ m) && (m == s.trunk.clock || !s.startReady) && notAfter m s.engineDeadline &&
  notAfter m s.trunk.timer &&
  (s.pins.tx.isNone || s.engine.state != .idle || decide (m ≤ 8))

/-! ### The settlement and the phases of a cycle (R67, R68, R98, R106, R109, R111, R126, R133) -/

/-- A miss counted against a record that is still ACTIVE; MISS_LIMIT is raised when the run reaches the limit (R109). -/
def State.countMiss (s : State) (h : Handle) : State :=
  match s.record h with
  | none => s
  | some r =>
    if r.state = .active then
      let misses := satInc r.counters.consecutive
      let s1 := s.setRecord h (some { r with counters :=
        { r.counters with missed := satInc r.counters.missed, consecutive := misses } })
      if r.params.missLimit = some misses then s1.raise r.owner (.stream h) .missLimit else s1
    else s

/-- The settlement of the cycle: every UNSERVED entry counts a miss (R109). -/
def State.settle (s : State) : State :=
  s.sched.entries.foldl (fun t e => if e.disposition = .unserved then t.countMiss e.handle else t) s

/-- ACYCLIC begins: the deferred set is emptied and no probe has been started (R126, R133). -/
def State.beginAcyclic (s : State) : State :=
  { s with trunk := { s.trunk with phase := .probes }
           acyclic := { s.acyclic with deferred := [], probesRun := 0 } }

/-- CYCLIC ends when no WAITING entry is left (R98). -/
def State.endCyclic (s : State) : State :=
  if s.trunk.phase = .cyclic ∧ (s.sched.entries.all fun e => e.disposition != .waiting) = true then
    s.updTrunk fun u => { u with phase := .retry }
  else s

/-- RETRY ends when the retry list is empty: the cycle is settled and ACYCLIC begins (R106, R109, R111). -/
def State.endRetry (s : State) : State :=
  if s.trunk.phase = .retry ∧ s.sched.retry = [] then s.settle.beginAcyclic else s

/-- Probe service ends after two probes, with the list empty, or at the guard (R126). -/
def State.endProbes (s : State) : State :=
  if s.trunk.phase = .probes ∧ (2 ≤ s.acyclic.probesRun ∨ s.acyclic.probeList = [] ∨ s.trunk.guard = true) then
    s.updTrunk fun u => { u with phase := .pieces }
  else s

/-- The request at the head may not be served in this phase: there is none, or it was deferred in it (R133). -/
def AcyclicScheduler.headBlocked (q : AcyclicScheduler) : Bool :=
  match q.queue with
  | [] => true
  | id :: _ => q.deferred.contains id

/-- ACYCLIC ends when the queue is empty, the head was deferred in this phase, or the guard has begun (R133). -/
def State.endPieces (s : State) : State :=
  if s.trunk.phase = .pieces ∧ (s.acyclic.headBlocked = true ∨ s.trunk.guard = true) then
    s.updTrunk fun u => { u with phase := .over }
  else s

/-- The phases of the cycle moved on as far as they go with no exchange in flight; with one in flight they stay. -/
def State.advance (s : State) : State :=
  match s.engine.state.inFlight with
  | some _ => s
  | none => s.endCyclic.endRetry.endProbes.endPieces

/-! ### Staged configuration (R76) -/

/-- The staged C and A, if any, become applied and CONFIG_APPLIED is raised to both ports. -/
def State.applyStaged (s : State) : State :=
  match s.trunk.staged with
  | none => s
  | some g =>
    (s.updTrunk fun u => { u with applied := { u.applied with c := g.c, a := g.a }, staged := none }).raiseBoth
      .configApplied

/-! ### The end of an exchange for a CLOSING record or a CANCELLING request (R15, R142) -/

/-- A parked close of this record. -/
def ParkKind.closes (h : Handle) : ParkKind → Bool
  | .close h' _ => h' == h
  | .cancel _ => false

/-- A parked cancel of this request. -/
def ParkKind.cancels (id : ReqId) : ParkKind → Bool
  | .close _ _ => false
  | .cancel id' => id' == id

/-- The OK body of a close that waited: handle, waited, amendment dropped (R170). -/
def ParkKind.closeBody : ParkKind → List Byte
  | .close h dropped => [byte h.val, 1, boolByte dropped]
  | .cancel _ => []

/-- A CLOSING record freed at the end of its exchange, and its parked CLOSE_STREAM answered (R15). -/
def State.endClosing (s : State) (h : Handle) (r : StreamRecord) : State :=
  (s.freeRecord h r).answerParked (ParkKind.closes h) ParkKind.closeBody

/-- A CANCELLING request freed at the end of its piece, and its parked CANCEL_REQUEST answered: the state ACTIVE and the
progress (R142). -/
def State.endCancelling (s : State) (id : ReqId) (q : Request) : State :=
  (s.freeRequest id).answerParked (ParkKind.cancels id)
    fun _ => [byte (reqStateCode .active)] ++ be16 q.progress

/-! ### Entry to FAULTED and to HALTED (R71, R74) -/

/-- The exchange in flight, if any, ends ABANDONED: its record or request keeps every field, but a CLOSING record or a
CANCELLING request is freed; the engine is IDLE (R25, R88, R90, R145). -/
def State.abandon (s : State) : State :=
  let s1 := s.setEngine .idle
  match s.engine.state.inFlight with
  | none => s1
  | some x =>
    match x.poll.handle?, x.poll.reqId? with
    | some h, _ =>
      match s.record h with
      | some r => if r.state = .closing then s1.endClosing h r else s1
      | none => s1
    | none, some id =>
      match s.request id with
      | some q => if q.state = .cancelling then s1.endCancelling id q else s1
      | none => s1
    | none, none => s1

/-- Entry to FAULTED from SYNCING, RUNNING or DRAINING (R74). -/
def State.enterFaulted (s : State) (cause : FaultCause) : State :=
  let s1 := s.abandon.setTx none
  let s2 := { s1 with sched := ⟨[], [], []⟩ }
  let s3 := s2.updTrunk fun u =>
    { u with state := .faulted, faultCause := some cause, haltRequested := false, timer := none, phase := .idle,
             guard := false }
  s3.applyStaged.raiseBoth .trunkFault

/-- Entry to HALTED (R71). -/
def State.enterHalted (s : State) : State :=
  let s1 := s.updTrunk fun u =>
    { u with state := .halted, haltRequested := false, timer := none, phase := .idle, guard := false }
  s1.applyStaged.raiseBoth .trunkHalted

/-! ### Restart marks and the trunk restart (R62, R63) -/

/-- A restart mark begins on a quiet line: a staged configuration is applied at its beginning, the mark carries the
number of marks still to follow, and the next mark falls due C later (R63, R76). -/
def State.beginRestartMark (s : State) : State :=
  let s1 := s.applyStaged
  let s2 := s1.updTrunk fun u =>
    { u with marksSent := u.marksSent + 1, clock := 0, timer := some u.applied.c }
  s2.setTx (some (restartMarkFrame (3 - s1.trunk.marksSent) s1.trunk.applied.c s1.trunk.applied.w))

/-- A restart mark falls due: it begins, or the trunk faults on a busy line (R63, R73). -/
def State.restartMarkFallsDue (s : State) : State :=
  if s.lineBusy then s.enterFaulted .lineJammed else s.beginRestartMark

/-- A live record at a trunk restart: sequence bit 0 and resync pending (R24). -/
def StreamRecord.resynced (r : StreamRecord) : StreamRecord := { r with seqBit := false, resync := true }

/-- The trunk restart: entry to SYNCING (R62, R129). -/
def State.trunkRestart (s : State) : State :=
  { s with
    trunk := { s.trunk with state := .syncing, cycle := 0, marksSent := 0, haltRequested := false, faultCause := none,
                            clock := 0, phase := .idle, guard := false }
    table := { s.table with records := s.table.records.map fun o => o.map StreamRecord.resynced }
    roster := s.roster.map fun e => { e with failures := 0 }
    sched := ⟨[], [], []⟩ }

/-! ### What a RUNNING cycle mark does to the stream records (R17, R21, R50, R56) -/

/-- The record as its pending amendment leaves it: the new parameters and lease, consecutive misses 0 and, when the
length changes, the new blocks and the value reset (R21, R56). -/
def StreamRecord.amended (r : StreamRecord) (am : Amendment) : StreamRecord :=
  let r1 := { r with params := am.params, leaseRemaining := am.params.lease, amendment := none,
                     counters := { r.counters with consecutive := 0 } }
  match am.blocks with
  | none => r1
  | some blocks =>
    { r1 with blocks := blocks, publishedHalf := .first, sample := none, currentHalf := .first, current := none,
              posted := false, seqBit := false, resync := true }

/-- A pending amendment applied: the old charge and, when the length changes, the old blocks are released, and
AMEND_APPLIED is raised to the owner (R21). -/
def State.applyAmendment (s : State) (h : Handle) (r : StreamRecord) (am : Amendment) : State :=
  let s1 := s.discharge r.params
  let s2 := match am.blocks with
    | none => s1
    | some _ => s1.releaseBlocks r.blocks
  (s2.setRecord h (some (r.amended am))).raise r.owner (.stream h) .amendApplied

/-- A lease remaining counted down by one (R17). -/
def StreamRecord.leaseCounted (r : StreamRecord) : StreamRecord :=
  { r with leaseRemaining := r.leaseRemaining.map (· - 1) }

/-- The age of a present COLLECT sample counts one (R50). -/
def StreamRecord.aged (r : StreamRecord) : StreamRecord :=
  match r.direction with
  | .collect => { r with sample := r.sample.map fun i => { i with age := satInc i.age } }
  | .deliver => r

/-- A lease whose remaining has come to 0 while the trunk is RUNNING retires the record and raises EXPIRED to its owner
(R17); a CLOSING record is not retired a second time (R12). -/
def State.expireLease (s : State) (h : Handle) : State :=
  match s.record h with
  | none => s
  | some r =>
    if s.trunk.state = .running ∧ r.leaseRemaining = some 0 ∧ r.state ≠ .closing then
      (s.retire h r).raise r.owner (.stream h) .expired
    else s

/-- The Table Controller's actions at a mark on one record: the amendment applied, or else the lease counted down; the
sample aged; the lease expired if it came to 0. -/
def State.markRecord (s : State) (h : Handle) : State :=
  match s.record h with
  | none => s
  | some r =>
    let s1 := match r.amendment with
      | some am => s.applyAmendment h r am
      | none => s.setRecord h (some r.leaseCounted)
    (s1.updRecord h StreamRecord.aged).expireLease h

/-! ### The due list and the probe list at a mark (R95, R125) -/

/-- The record is listed in a cycle: ACTIVE, of this period, and due (R95). -/
def State.listed (s : State) (cycle period : Nat) (h : Handle) : Bool :=
  match s.record h with
  | none => false
  | some r => r.state == .active && r.params.period == period && dueAt r.params.period r.params.phase cycle

/-- The due list of a cycle: by period, shortest first, then by handle (R95). -/
def State.dueList (s : State) (cycle : Nat) : List Handle :=
  periods.flatMap fun period => handles.filter (s.listed cycle period)

/-- The lists of the cycle that a mark opens (R94, R95). -/
def State.formLists (s : State) : State :=
  let due := s.dueList s.trunk.cycle.toNat
  { s with sched := ⟨due, [], due.map fun h => ⟨h, 0, .waiting⟩⟩ }

/-- Addresses appended to the tail of the probe list, those already listed left out (R125). -/
def State.appendProbes (s : State) (new : List Node) : State :=
  let listed := s.acyclic.probeList ++ new.filter fun n => !s.acyclic.probeList.contains n
  { s with acyclic := { s.acyclic with probeList := listed } }

/-- At a mark whose cycle number modulo the probe interval is 0, LOST addresses join the probe list (R125). -/
def State.intervalProbes (s : State) : State :=
  if s.trunk.cycle.toNat % s.trunk.applied.interval = 0 then
    s.appendProbes (nodes.filter fun n => (s.node n).state == .lost)
  else s

/-! ### The cycle mark (R63, R65, R66) -/

/-- The Cycle Unit's part of a cycle mark: the staged configuration applied, the new cycle's number, RUNNING (with
TRUNK_RUNNING at the mark of cycle 0), the timer, the mark on TXD. -/
def State.openCycle (s : State) : State :=
  let s1 := s.applyStaged
  let s2 := if s1.trunk.state = .syncing then
      (s1.updTrunk fun u => { u with state := .running, cycle := 0 }).raiseBoth .trunkRunning
    else s1.updTrunk fun u => { u with cycle := u.cycle + 1 }
  let s3 := s2.updTrunk fun u =>
    { u with clock := 0, timer := some u.applied.c, phase := .mark, guard := false }
  s3.setTx (some (cycleMarkFrame s3.trunk.cycle.toNat s3.trunk.applied.c))

/-- A cycle mark begins on a quiet line: it opens the next cycle and every block acts (R65). -/
def State.beginCycleMark (s : State) : State :=
  ((handles.foldl State.markRecord s.openCycle).formLists).intervalProbes

end Sys2Proof.Machine
end

