-- ==== Sys2Proof/Machine/ExchangeOps.lean ====
section
/-! DEFINITION. The start and the end of an exchange: the fit tests, the polls and what they carry (R53, R79, R80), the
placing of reply bytes (R84), and what each outcome does to records, requests and the roster (Chapters 5, 6 and 8). -/

namespace Sys2Proof.Machine

/-! ### Fit tests and starts (R67, R68, R81) -/

/-- The slot of a probe (Table 5-1). -/
def probeSlot (w : Nat) : Nat := 21 + w

/-- The slot of a piece (Table 5-1). -/
def pieceSlot (w n : Nat) : Nat := 17 + n + w

/-- A slot that starts now ends no later than C − 10, the start of the guard (R68, R98). -/
def State.fitsGuard (s : State) (slot : Nat) : Bool := decide (s.trunk.clock + slot + 10 ≤ s.trunk.applied.c)

/-- A slot that starts now ends no later than 8 + B (R67, R106). -/
def State.fitsRetry (s : State) (slot : Nat) : Bool :=
  decide (s.trunk.clock + slot ≤ 8 + s.trunk.appliedBudget)

/-- The engine starts an exchange: it transmits the frame from now, and its slot runs from now (R81, R82). -/
def State.startExchange (s : State) (poll : Poll) (n : Node) (frame : List Byte) (slot : Nat) : State :=
  (s.setEngine (.polling ⟨poll, n, s.trunk.clock + frame.length, s.trunk.clock + slot⟩)).setTx (some frame)

/-- What a DELIVER poll carries (R53). -/
inductive Selection where
  | current
  | promoted
  | hold
  deriving DecidableEq, Repr

/-- The selection at the start of a DELIVER poll: the current delivery while it is not accepted, else the posted value,
else nothing (R53). -/
def StreamRecord.select (r : StreamRecord) : Selection :=
  if r.current = some false then .current else if r.posted then .promoted else .hold

/-- The record as the selection leaves it: a posted value that is selected becomes the current delivery, not accepted,
and the halves exchange roles (R52, R53). -/
def StreamRecord.selected (r : StreamRecord) : StreamRecord :=
  match r.select with
  | .promoted => { r with current := some false, posted := false, currentHalf := r.currentHalf.other }
  | _ => r

/-- The bytes of the current delivery, in the current half (R52). -/
def State.currentBytes (s : State) (r : StreamRecord) : List Byte :=
  s.loadBytes (valueAddrs r.blocks r.currentHalf r.params.len)

/-- A stream poll of a record starts: the DELIVER selection is made, the poll is built from the record as it then
stands, and the entry counts an attempt (R53, R79, R98, R106). -/
def State.startStreamPoll (s : State) (h : Handle) (r : StreamRecord) : State :=
  let len := r.params.len
  let slot := slotCost s.trunk.applied.w len
  let s1 := s.updEntry h fun e => { e with attempts := e.attempts + 1, disposition := .inFlight }
  match r.direction with
  | .collect =>
    s1.startExchange (.collect h len r.seqBit r.resync) r.node
      (streamPollFrame r.node r.channel .collect r.seqBit r.resync false len []) slot
  | .deliver =>
    let r1 := r.selected
    let s2 := s1.setRecord h (some r1)
    match r.select with
    | .hold =>
      s2.startExchange (.hold h len r.seqBit r.resync) r.node
        (streamPollFrame r.node r.channel .deliver r.seqBit r.resync true 0 []) slot
    | _ =>
      s2.startExchange (.value h len r.seqBit r.resync) r.node
        (streamPollFrame r.node r.channel .deliver r.seqBit r.resync false len (s.currentBytes r1)) slot

/-- The service entries passed over: those still to be served whose record has left ACTIVE (R97). -/
def State.passOver (s : State) : State :=
  s.sched.entries.foldl
    (fun t e =>
      if (e.disposition = .waiting ∨ e.disposition = .retryWait) ∧ s.isActive e.handle = false then t.excuse e.handle
      else t) s

/-- The next WAITING record on the due list (R98). -/
def State.nextWaiting (s : State) : Option Handle :=
  (s.sched.entries.find? fun e => e.disposition == .waiting).map ServiceEntry.handle

/-- Crowded out: every WAITING entry becomes UNSERVED and CYCLIC ends (R99). -/
def State.crowdOut (s : State) : State :=
  { s with
    sched := { s.sched with entries := s.sched.entries.map fun e =>
      if e.disposition = .waiting then { e with disposition := .unserved } else e }
    trunk := { s.trunk with phase := .retry } }

/-- Dropped: every handle leaves the retry list and its entry becomes UNSERVED (R107). -/
def State.dropRetries (s : State) : State :=
  { s with
    sched := { s.sched with
      retry := []
      entries := s.sched.entries.map fun e =>
        if e.disposition = .retryWait then { e with disposition := .unserved } else e } }

/-- A probe of a node starts (R80, R126). -/
def State.startProbe (s : State) (n : Node) : State :=
  ({ s with acyclic := { s.acyclic with probesRun := s.acyclic.probesRun + 1 } }).startExchange .probe n (probeFrame n)
    (probeSlot s.trunk.applied.w)

/-- The count of a request's next piece (R134). -/
def Request.pieceCount (q : Request) : Nat := min 32 (q.length - q.progress)

/-- The data bytes a piece poll carries: those of the area for a write piece, none for a read piece (R58, R80). -/
def State.pieceData (s : State) (id : ReqId) (q : Request) : List Byte :=
  match q.kind with
  | .read => []
  | .write => s.loadBytes (areaAddrs id q.progress q.pieceCount)

/-- The next piece of a request starts; a QUEUED request becomes ACTIVE (R134). -/
def State.startPiece (s : State) (id : ReqId) (q : Request) : State :=
  (s.setRequest id (some { q with state := .active })).startExchange (.piece id q.kind q.progress q.pieceCount) q.node
    (piecePollFrame q.node q.kind q.param q.progress q.pieceCount q.length (s.pieceData id q))
    (pieceSlot s.trunk.applied.w q.pieceCount)

/-! ### Placing reply bytes (R48, R58, R84) -/

/-- Where the payload bytes of a reply go: at most L into the arrival half of a COLLECT record, at most n into the
request area for a read piece, at most 8 into the identity holding for a probe; others are not stored (R84). Fewer
than 8 leave the rest of the identity holding as it was: the spec says that at most 8 go in and not what the others
keep (DESIGN CHOICE, log entry 29). -/
def State.placePayload (s : State) (p : Poll) (payload : List Byte) : State :=
  match p with
  | .collect h len _ _ =>
    match s.record h with
    | some r => s.storeBytes (valueAddrs r.blocks r.publishedHalf.other len) payload
    | none => s
  | .piece id .read offset n => s.storeBytes (areaAddrs id offset n) payload
  | .probe =>
    let first := payload.take 8
    { s with engine := { s.engine with identity := first ++ s.engine.identity.drop first.length } }
  | _ => s

/-- The payload bytes among those of a reply received whole so far have been placed, as they arrived, when LFAULT or a
device reset cuts its reception short (R48, R58, R84, R90). Which bytes those are the row does not carry: they are a
free value (DESIGN CHOICE, log entry 13). -/
def State.placeArrived (s : State) : State :=
  match s.engine.state with
  | .receiving x _ =>
    { s.placePayload x.poll (replyPayload x.poll (Config.arrivedBytes s.freeIndex)) with freeIndex := s.freeIndex + 1 }
  | .idle | .polling _ | .awaiting _ | .quieting _ => s

/-! ### Service results (R100 to R105) -/

/-- A COLLECT record with the arrived sample published: the halves change roles, age 0, the bit toggles (R49). -/
def StreamRecord.published (r : StreamRecord) (cycle : Nat) : StreamRecord :=
  { r with publishedHalf := r.publishedHalf.other, sample := some ⟨cycle, 0⟩, seqBit := !r.seqBit }

/-- A DELIVER record whose current delivery the node has accepted: marked accepted, the bit toggles (R54). -/
def StreamRecord.accepted (r : StreamRecord) : StreamRecord :=
  { r with current := r.current.map fun _ => true, seqBit := !r.seqBit }

/-- What OK does to the value fields, by the kind of poll (R100). -/
def StreamRecord.okValues (r : StreamRecord) (p : Poll) (cycle : Nat) : StreamRecord :=
  match p with
  | .collect _ _ _ _ => r.published cycle
  | .value _ _ _ _ => r.accepted
  | _ => r

/-- A service result of a served poll: served counts one, consecutive misses is 0, resync pending is no (R100, R101). -/
def StreamRecord.countServed (r : StreamRecord) : StreamRecord :=
  { r with resync := false, counters := { r.counters with served := satInc r.counters.served, consecutive := 0 } }

/-- A DUPLICATE also counts in duplicates (R101). -/
def StreamRecord.countDuplicate (r : StreamRecord) : StreamRecord :=
  { r with counters := { r.counters with duplicates := satInc r.counters.duplicates } }

/-- The disposition of an entry replaced. -/
def State.setDisposition (s : State) (h : Handle) (d : Disposition) : State :=
  s.updEntry h fun e => { e with disposition := d }

/-- The attempts of a record's entry. -/
def State.attempts (s : State) (h : Handle) : Nat :=
  ((s.sched.entries.find? fun e => e.handle == h).map ServiceEntry.attempts).getD 0

/-- An unanswered poll: the record joins the tail of the retry list while attempts is no greater than its retry limit,
and is UNSERVED otherwise (R104). -/
def State.retryOrGiveUp (s : State) (h : Handle) (r : StreamRecord) : State :=
  if s.attempts h ≤ r.params.retryLimit then
    let s1 := s.setDisposition h .retryWait
    { s1 with sched := { s1.sched with retry := s1.sched.retry ++ [h] } }
  else s.setDisposition h .unserved

/-- The service result of a poll of an ACTIVE record (Table 6-4). -/
def State.serveRecord (s : State) (h : Handle) (r : StreamRecord) (p : Poll) (o : ExchangeOutcome) : State :=
  match o with
  | .ok =>
    (s.setRecord h (some (r.okValues p s.trunk.cycle.toNat).countServed)).setDisposition h .served
  | .duplicate => (s.setRecord h (some r.countServed.countDuplicate)).setDisposition h .served
  | .deferred => (s.setRecord h (some { r with resync := false })).setDisposition h .unserved
  | .refused =>
    ((s.setRecord h (some { r with state := .faulted, resync := false })).excuse h).raise r.owner (.stream h) .faulted
  | .timeout | .crcError | .badLength | .overlong => s.retryOrGiveUp h r

/-- The outcome of a stream poll taken by the scheduler: applied to an ACTIVE record; a CLOSING one is freed and its
parked close answered; a record SUSPENDED by the same end is left alone (R105). -/
def State.serviceResult (s : State) (h : Handle) (p : Poll) (o : ExchangeOutcome) : State :=
  match s.record h with
  | none => s
  | some r =>
    match r.state with
    | .active => s.serveRecord h r p o
    | .closing => s.endClosing h r
    | .suspended | .faulted => s

/-! ### Piece outcomes (R135 to R138, R142) -/

/-- A piece of an ACTIVE request ended OK (R135). -/
def State.pieceOk (s : State) (id : ReqId) (q : Request) (n : Nat) : State :=
  let q1 := { q with progress := q.progress + n, defers := 0, failures := 0 }
  if q1.progress = q.length then
    ((s.leaveQueue id).setRequest id (some { q1 with state := .done })).raise q.owner (.request id) .requestDone
  else s.setRequest id (some q1)

/-- A piece of an ACTIVE request ended DEFERRED (R136). -/
def State.pieceDeferred (s : State) (id : ReqId) (q : Request) : State :=
  let q1 := { q with defers := q.defers + 1, failures := 0 }
  if q1.defers = 8 then s.failRequest id q1 .deferLimit
  else
    let s1 := s.setRequest id (some q1)
    { s1 with acyclic := { s1.acyclic with queue := s1.acyclic.queue.filter (· != id) ++ [id],
                                           deferred := s1.acyclic.deferred ++ [id] } }

/-- A piece of an ACTIVE request ended unanswered (R138). -/
def State.pieceUnanswered (s : State) (id : ReqId) (q : Request) : State :=
  let q1 := { q with failures := q.failures + 1 }
  if q1.failures = 3 then s.failRequest id q1 .noAnswer else s.setRequest id (some q1)

/-- The outcome of a piece taken by the Acyclic Scheduler: applied to an ACTIVE request (Table 8-3); a CANCELLING one is
freed and its parked cancel answered (R142); one that has already failed is left alone (R143). -/
def State.pieceResult (s : State) (id : ReqId) (n : Nat) (o : ExchangeOutcome) : State :=
  match s.request id with
  | none => s
  | some q =>
    match q.state with
    | .active =>
      match o with
      | .ok | .duplicate => s.pieceOk id q n
      | .deferred => s.pieceDeferred id q
      | .refused => s.failRequest id q .refused
      | .timeout | .crcError | .badLength | .overlong => s.pieceUnanswered id q
    | .cancelling => s.endCancelling id q
    | .queued | .done | .failed => s

/-- The order of the two reports of a piece's end shows: the unanswered end of an ACTIVE request's piece also makes
the node LOST. The piece failure count then counts this end or not and, when it is the third, the failure reason
differs (R143). -/
def State.orderShows (s : State) (id : ReqId) (n : Node) (o : ExchangeOutcome) : Bool :=
  !o.answered && s.lossDue n &&
  match s.request id with
  | some q => q.state == .active
  | none => false

/-- The end of a piece: the roster's report and the request's outcome. Where their order shows, in the piece failure
count or the failure reason, it is a free value (log entry 7); elsewhere both orders agree. -/
def State.endPiece (s : State) (id : ReqId) (count : Nat) (n : Node) (o : ExchangeOutcome) : State :=
  if s.orderShows id n o = true then
    let s1 := { s with freeIndex := s.freeIndex + 1 }
    if Config.rosterReportFirst s.freeIndex = true then (s1.report n o).pieceResult id count o
    else (s1.pieceResult id count o).report n o
  else (s.report n o).pieceResult id count o

/-! ### The end of a probe (R117, R119, R126, R127) -/

/-- The probed address leaves the list; when that leaves it empty with scan pending yes, SCAN_DONE is raised to both
ports and scan pending becomes no (R126, R127). -/
def State.probeRemoved (s : State) (n : Node) : State :=
  let left := s.acyclic.probeList.filter (· != n)
  if left = [] ∧ s.acyclic.scanPending = true then
    ({ s with acyclic := { s.acyclic with probeList := left, scanPending := false } }).raiseBoth .scanDone
  else { s with acyclic := { s.acyclic with probeList := left } }

/-- The end of a probe: the roster's report, with the identity on OK, and the address off the list. -/
def State.endProbe (s : State) (n : Node) (o : ExchangeOutcome) : State :=
  let s1 :=
    if o.answered then s.reportAnswered n (if o = .ok then identityOf s.engine.identity else none)
    else s.reportUnansweredProbe n
  s1.probeRemoved n

/-! ### The end of an exchange (R91) -/

/-- An exchange ends with an outcome: it is reported to the roster and to the scheduler that started it, and the cycle's
phases move on. The engine's next state has been set already. -/
def State.endExchange (s : State) (x : Exchange) (o : ExchangeOutcome) : State :=
  (match x.poll with
    | .collect h _ _ _ => (s.report x.node o).serviceResult h x.poll o
    | .value h _ _ _ => (s.report x.node o).serviceResult h x.poll o
    | .hold h _ _ _ => (s.report x.node o).serviceResult h x.poll o
    | .probe => s.endProbe x.node o
    | .piece id _ _ n => s.endPiece id n x.node o).advance

end Sys2Proof.Machine
end

