-- ==== Sys2Proof/Machine/StreamCommands.lean ====
section
/-! DEFINITION. The nine commands of the Table Controller: OPEN_STREAM to READ_LOAD (Chapters 1, 2, 3, R168 to R173).
An owner is given the sending port, the body and the state without the command, and answers the state after it and its
result (R167). -/

namespace Sys2Proof.Machine

/-- A refusal with an empty body: no state changes (R167). -/
def State.refuse (s : State) (r : ResultCode) : State × Answer := (s, .reply r [])

/-- The check NO_SUCH of a command that names a handle (R1, R167). -/
def State.withRecord (s : State) (b : Byte) (act : Handle → StreamRecord → State × Answer) : State × Answer :=
  match readHandle b with
  | none => s.refuse .noSuch
  | some h =>
    match s.record h with
    | none => s.refuse .noSuch
    | some r => act h r

/-- The checks NO_SUCH and NOT_OWNER, in this order (R6). -/
def State.withOwnRecord (s : State) (p : Port) (b : Byte) (act : Handle → StreamRecord → State × Answer) :
    State × Answer :=
  s.withRecord b fun h r => if r.owner = p then act h r else s.refuse .notOwner

/-! ### OPEN_STREAM (R2 to R4, R7, R29 to R31, R44, R45, R168) -/

/-- The parameters OPEN_STREAM names, at the phase it is admitted at. -/
def OpenArgs.params (g : OpenArgs) (phase : Nat) : Params :=
  ⟨g.period, phase, g.len, g.retryLimit, g.missLimit, g.lease⟩

/-- The state in which a stream of the node begins or is restarted: SUSPENDED while the node is LOST (R7, R11). -/
def State.beginState (s : State) (n : Node) : StreamState :=
  if (s.node n).state = .lost then .suspended else .active

/-- A record as OPEN_STREAM creates it (Table 1-2, Tables 3-3 and 3-4). -/
def newRecord (owner : Port) (n : Node) (channel : Nat) (d : Direction) (q : Params) (state : StreamState)
    (blocks : List Block) : StreamRecord :=
  { owner := owner, node := n, channel := channel, direction := d, params := q, leaseRemaining := q.lease,
    state := state, seqBit := false, resync := true, blocks := blocks, publishedHalf := .first, sample := none,
    currentHalf := .first, current := none, posted := false, counters := ⟨0, 0, 0, 0, 0⟩, amendment := none }

/-- The stream count of a node plus one (R2). -/
def State.countStreamIn (s : State) (n : Node) : State :=
  s.setNode n { s.node n with streams := (s.node n).streams + 1 }

/-- An identity, when one is held, has the channel (R123). -/
def RosterEntry.hasChannel (e : RosterEntry) (channel : Nat) : Bool :=
  match e.identity with
  | none => true
  | some i => decide (channel < i.channels)

/-- An identity, when one is held, takes payloads of the length (R123). -/
def RosterEntry.takesLength (e : RosterEntry) (len : Nat) : Bool :=
  match e.identity with
  | none => true
  | some i => decide (len ≤ i.largest)

/-- An admitted OPEN_STREAM carried out at a handle (R2). -/
def State.openRecord (s : State) (p : Port) (h : Handle) (n : Node) (g : OpenArgs) (phase : Nat) : State :=
  let q := g.params phase
  let blocks := s.store.free.take (blocksNeeded g.len)
  let s1 := if s.cleanHandle h then s else s.clearHandleAttn h
  (((s1.setRecord h (some (newRecord p n g.channel g.direction q (s.beginState n) blocks))).takeBlocks
    (blocksNeeded g.len)).charge q).countStreamIn n

/-- The checks of OPEN_STREAM after its ranges, in order, and its effect. -/
def State.judgeOpen (s : State) (p : Port) (n : Node) (g : OpenArgs) : State × Answer :=
  let cost := slotCost s.trunk.applied.w g.len
  let phase := resolvePhase s.table.load g.period cost g.phase
  if (s.node n).hasChannel g.channel = false ∨ (s.node n).takesLength g.len = false then s.refuse .notSupported
  else if (s.findKey n g.channel g.direction).isSome then s.refuse .conflict
  else
    match s.chooseHandle with
    | none => s.refuse .tableFull
    | some h =>
      if s.store.free.length < blocksNeeded g.len then s.refuse .noSpace
      else if admissible s.table.load g.period phase cost s.trunk.admissionLimit = false then s.refuse .noBudget
      else
        (s.openRecord p h n g phase, .reply .ok [byte h.val, byte phase, byte (streamStateCode (s.beginState n))])

/-- The Table Controller takes OPEN_STREAM. -/
def ownOpenStream (p : Port) (body : List Byte) (s : State) : State × Answer :=
  match readOpen body with
  | none => s.refuse .badArgument
  | some g =>
    if g.inRange = false then s.refuse .badArgument
    else
      match nodeOf? g.node with
      | none => s.refuse .badArgument
      | some n => s.judgeOpen p n g

/-- OPEN_STREAM. -/
def execOpenStream (p : Port) (s : State) : Host.Outcome State Fault Refusal :=
  .next (s.serve p .openStream ownOpenStream)

/-! ### AMEND_STREAM (R19, R33, R34, R44, R45, R123, R169) -/

/-- The parameters of an amendment: named fields from the command, the others from the applied parameters (R19). -/
def AmendArgs.params (g : AmendArgs) (applied : Params) (phase : Nat) : Params :=
  { period := g.period.getD applied.period
    phase := phase
    len := g.len.getD applied.len
    retryLimit := g.retryLimit.getD applied.retryLimit
    missLimit := g.missLimit.getD applied.missLimit
    lease := g.lease.getD applied.lease }

/-- The phase of an amendment: named, chosen for ANY, or the applied phase modulo the amended period (R33). -/
def AmendArgs.phaseOf (g : AmendArgs) (applied : Params) (load : Vector Nat 128) (w : Nat) : Nat :=
  let period := g.period.getD applied.period
  match g.phase with
  | none => applied.phase % period
  | some ph => resolvePhase load period (slotCost w (g.len.getD applied.len)) ph

/-- The blocks an amendment needs: none when the length is kept (R44). -/
def AmendArgs.blocks (g : AmendArgs) (applied : Params) : Nat :=
  if g.len.getD applied.len = applied.len then 0 else blocksNeeded (g.len.getD applied.len)

/-- An admitted amendment becomes the record's pending amendment (R19). -/
def State.amendRecord (s : State) (h : Handle) (r : StreamRecord) (g : AmendArgs) (phase : Nat) : State :=
  let q := g.params r.params phase
  let blocks := if q.len = r.params.len then none else some (s.store.free.take (g.blocks r.params))
  ((s.setRecord h (some { r with amendment := some ⟨q, blocks⟩ })).takeBlocks (g.blocks r.params)).charge q

/-- The checks of AMEND_STREAM after WRONG_STATE, in order, and its effect. The record holds no amendment any more;
`released` says whether it held one (R34). -/
def State.judgeAmend (s : State) (h : Handle) (r : StreamRecord) (g : AmendArgs) (released : Bool) : State × Answer :=
  let len := g.len.getD r.params.len
  let period := g.period.getD r.params.period
  let phase := g.phaseOf r.params s.table.load s.trunk.applied.w
  if g.inRange r.params = false then (s, .reply .badArgument [boolByte released])
  else if (s.node r.node).takesLength len = false then (s, .reply .notSupported [boolByte released])
  else if s.store.free.length < g.blocks r.params then (s, .reply .noSpace [boolByte released])
  else if admissible s.table.load period phase (slotCost s.trunk.applied.w len) s.trunk.admissionLimit = false then
    (s, .reply .noBudget [boolByte released])
  else (s.amendRecord h r g phase, .reply .ok [boolByte released, byte phase])

/-- The Table Controller takes AMEND_STREAM. -/
def ownAmendStream (p : Port) (body : List Byte) (s : State) : State × Answer :=
  match readAmend body with
  | none => s.refuse .badArgument
  | some g =>
    s.withOwnRecord p g.handle fun h r =>
      if r.state = .closing then s.refuse .wrongState
      else (s.dropAmendment h r).judgeAmend h { r with amendment := none } g r.amendment.isSome

/-- AMEND_STREAM. -/
def execAmendStream (p : Port) (s : State) : Host.Outcome State Fault Refusal :=
  .next (s.serve p .amendStream ownAmendStream)

/-! ### CLOSE_STREAM (R12 to R14, R170) -/

/-- The Table Controller takes CLOSE_STREAM. A record freed may have been the last that its phase waited for, which then
ends at that moment (R98, R106; log entry 12). -/
def ownCloseStream (p : Port) (body : List Byte) (s : State) : State × Answer :=
  match readOneByte body with
  | none => s.refuse .badArgument
  | some b =>
    s.withOwnRecord p b fun h r =>
      if r.state = .closing then s.refuse .wrongState
      else if s.recordInFlight h then (s.retire h r, .park (.close h r.amendment.isSome))
      else ((s.retire h r).advance, .reply .ok [byte h.val, 0, boolByte r.amendment.isSome])

/-- CLOSE_STREAM. -/
def execCloseStream (p : Port) (s : State) : Host.Outcome State Fault Refusal :=
  .next (s.serve p .closeStream ownCloseStream)

/-! ### READ_STREAM (R6, R51, R171, R187) -/

/-- Six parameter fields as R187 codes them. -/
def Params.bytes (q : Params) : List Byte :=
  [byte q.period, byte q.phase, byte q.len, byte q.retryLimit, byte (q.missLimit.getD 0)] ++ be16 (q.lease.getD 0)

/-- The presence of the pending amendment and its fields; all 0 when it is absent (R186, R187). -/
def amendmentBytes : Option Amendment → List Byte
  | some am => [1] ++ am.params.bytes ++ [boolByte am.blocks.isSome]
  | none => [0, 0, 0, 0, 0, 0, 0, 0, 0]

/-- The five counters in their order. -/
def Counters.bytes (k : Counters) : List Byte :=
  be16 k.served ++ be16 k.missed ++ be16 k.consecutive ++ be16 k.duplicates ++ be16 k.superseded

/-- The value fields: the sample of a COLLECT record from its published half (R51), the current delivery of a DELIVER
record from its current half (R52). -/
def State.valueBytes (s : State) (r : StreamRecord) : List Byte :=
  match r.direction with
  | .collect =>
    match r.sample with
    | some i => [1] ++ be16 i.cycle ++ be16 i.age ++ s.loadBytes (valueAddrs r.blocks r.publishedHalf r.params.len)
    | none => [0, 0, 0, 0, 0]
  | .deliver =>
    match r.current with
    | some accepted => [1, boolByte accepted, boolByte r.posted] ++ s.currentBytes r
    | none => [0, 0, boolByte r.posted]

/-- The body of a READ_STREAM result (R187). -/
def State.recordBytes (s : State) (h : Handle) (r : StreamRecord) : List Byte :=
  [byte h.val, byte (portCode r.owner), byte (nodeAddress r.node), byte r.channel, byte (directionCode r.direction),
    byte (streamStateCode r.state)] ++ r.params.bytes ++ be16 (r.leaseRemaining.getD 0) ++
  [boolByte r.seqBit, boolByte r.resync] ++ r.counters.bytes ++ amendmentBytes r.amendment ++ s.valueBytes r

/-- The five counters set to 0 (R23, R171). -/
def StreamRecord.cleared (r : StreamRecord) : StreamRecord := { r with counters := ⟨0, 0, 0, 0, 0⟩ }

/-- The Table Controller takes READ_STREAM; the counters are reported as they stood before a clear. -/
def ownReadStream (p : Port) (body : List Byte) (s : State) : State × Answer :=
  match readReadStream body with
  | none => s.refuse .badArgument
  | some (b, clear) =>
    s.withRecord b fun h r =>
      if clear = false then (s, .reply .ok (s.recordBytes h r))
      else if r.owner = p then (s.setRecord h (some r.cleared), .reply .ok (s.recordBytes h r))
      else s.refuse .notOwner

/-- READ_STREAM. -/
def execReadStream (p : Port) (s : State) : Host.Outcome State Fault Refusal :=
  .next (s.serve p .readStream ownReadStream)

/-! ### FIND_STREAM (R5, R171) -/

/-- The FIND_STREAM result for a key (R5). -/
def State.findBytes (s : State) (n : Node) (channel : Nat) (d : Direction) : Option (List Byte) :=
  match s.findKey n channel d with
  | none => none
  | some h => (s.record h).map fun r => [byte h.val, byte (portCode r.owner), byte (streamStateCode r.state)]

/-- The Table Controller takes FIND_STREAM. -/
def ownFindStream (_ : Port) (body : List Byte) (s : State) : State × Answer :=
  match readFind body with
  | none => s.refuse .badArgument
  | some (node, channel, d) =>
    match nodeOf? node with
    | none => s.refuse .badArgument
    | some n =>
      if 15 < channel then s.refuse .badArgument
      else
        match s.findBytes n channel d with
        | none => s.refuse .noSuch
        | some bytes => (s, .reply .ok bytes)

/-- FIND_STREAM. -/
def execFindStream (p : Port) (s : State) : Host.Outcome State Fault Refusal :=
  .next (s.serve p .findStream ownFindStream)

/-! ### POST_VALUE (R52, R55, R172) -/

/-- A posted value taken: written into the post half, which is the half that is not current; a value it replaces is
counted (R55). -/
def State.postRecord (s : State) (h : Handle) (r : StreamRecord) (value : List Byte) : State :=
  let k := r.counters
  let k1 := if r.posted then { k with superseded := satInc k.superseded } else k
  (s.storeBytes (valueAddrs r.blocks r.currentHalf.other r.params.len) value).setRecord h
    (some { r with posted := true, counters := k1 })

/-- The Table Controller takes POST_VALUE. -/
def ownPostValue (p : Port) (body : List Byte) (s : State) : State × Answer :=
  match readPost body with
  | none => s.refuse .badArgument
  | some (b, value) =>
    s.withOwnRecord p b fun h r =>
      if r.direction = .collect ∨ r.state = .closing then s.refuse .wrongState
      else if value.length ≠ r.params.len then s.refuse .badArgument
      else (s.postRecord h r value, .reply .ok [boolByte r.posted])

/-- POST_VALUE. -/
def execPostValue (p : Port) (s : State) : Host.Outcome State Fault Refusal :=
  .next (s.serve p .postValue ownPostValue)

/-! ### RENEW_LEASES (R18, R172) -/

/-- RENEW_LEASES from the port reaches the record. -/
def StreamRecord.renewable (p : Port) (r : StreamRecord) : Bool :=
  r.owner == p && r.params.lease.isSome && r.state != .closing

/-- The record with its lease remaining renewed, if the command reaches it. -/
def StreamRecord.renewed (p : Port) (r : StreamRecord) : StreamRecord :=
  if r.renewable p then { r with leaseRemaining := r.params.lease } else r

/-- The number of records a RENEW_LEASES of the port reaches. -/
def State.renewCount (s : State) (p : Port) : Nat := handles.countP fun h => (s.record h).any (StreamRecord.renewable p)

/-- Every record reached is renewed. -/
def State.renewAll (s : State) (p : Port) : State :=
  { s with table := { s.table with records := s.table.records.map fun o => o.map (StreamRecord.renewed p) } }

/-- The Table Controller takes RENEW_LEASES. Table 12-6 does not code the number renewed: one byte is the model's choice
(DESIGN CHOICE, log entry 31). -/
def ownRenewLeases (p : Port) (body : List Byte) (s : State) : State × Answer :=
  match readNothing body with
  | none => s.refuse .badArgument
  | some _ => (s.renewAll p, .reply .ok [byte (s.renewCount p)])

/-- RENEW_LEASES. -/
def execRenewLeases (p : Port) (s : State) : Host.Outcome State Fault Refusal :=
  .next (s.serve p .renewLeases ownRenewLeases)

/-! ### RESTART_STREAM (R11, R170) -/

/-- The Table Controller takes RESTART_STREAM. -/
def ownRestartStream (p : Port) (body : List Byte) (s : State) : State × Answer :=
  match readOneByte body with
  | none => s.refuse .badArgument
  | some b =>
    s.withOwnRecord p b fun h r =>
      if r.state ≠ .faulted then s.refuse .wrongState
      else
        (s.setRecord h (some { r.resynced with state := s.beginState r.node }),
          .reply .ok [byte (streamStateCode (s.beginState r.node))])

/-- RESTART_STREAM. -/
def execRestartStream (p : Port) (s : State) : Host.Outcome State Fault Refusal :=
  .next (s.serve p .restartStream ownRestartStream)

/-! ### READ_LOAD (R40, R173, R186) -/

/-- An entry of the Load Map, the index taken modulo 128. -/
def loadAt (load : Vector Nat 128) (i : Nat) : Nat := load[i % 128]'(Nat.mod_lt _ (by decide))

/-- The applied budget, the staged presence and the staged budget, as READ_LOAD and SET_CONFIG report them. -/
def CycleUnit.budgetBytes (u : CycleUnit) : List Byte :=
  be16 u.appliedBudget ++ [boolByte u.staged.isSome] ++ be16 u.stagedBudget

/-- The Table Controller takes READ_LOAD. -/
def ownReadLoad (_ : Port) (body : List Byte) (s : State) : State × Answer :=
  match readReadLoad body with
  | none => s.refuse .badArgument
  | some (first, count) =>
    if 127 < first ∨ count < 1 ∨ 64 < count then s.refuse .badArgument
    else
      (s, .reply .ok (s.trunk.budgetBytes ++
        (List.range count).flatMap fun i => be16 (loadAt s.table.load (first + i))))

/-- READ_LOAD. -/
def execReadLoad (p : Port) (s : State) : Host.Outcome State Fault Refusal :=
  .next (s.serve p .readLoad ownReadLoad)

end Sys2Proof.Machine
end

