-- ==== Sys2Proof/Machine/RequestCommands.lean ====
section
/-! DEFINITION. The three commands of the Acyclic Scheduler: SEND_REQUEST, FETCH_REQUEST and CANCEL_REQUEST (Chapter 8,
R174, R175). -/

namespace Sys2Proof.Machine

/-! ### SEND_REQUEST (R58, R131, R174) -/

/-- The ranges and the write data of SEND_REQUEST pass (R131). -/
def SendArgs.inRange (g : SendArgs) : Bool :=
  decide (1 ≤ g.length) && decide (g.length ≤ 256) &&
  match g.kind with
  | .read => g.data.isEmpty
  | .write => g.data.length == g.length

/-- A request as SEND_REQUEST fills it (R131). -/
def newRequest (owner : Port) (n : Node) (g : SendArgs) : Request :=
  { state := .queued, owner := owner, kind := g.kind, node := n, param := g.param, length := g.length, progress := 0,
    reason := none, defers := 0, failures := 0 }

/-- A request taken: its record filled, its id at the tail of the queue, its write data in the data area. The data of a
PARAM_READ is empty, so nothing is written for it (R58). -/
def State.sendRequest (s : State) (p : Port) (id : ReqId) (n : Node) (g : SendArgs) : State :=
  let s1 := (s.setRequest id (some (newRequest p n g))).storeBytes (areaAddrs id 0 g.length) g.data
  { s1 with acyclic := { s1.acyclic with queue := s1.acyclic.queue ++ [id] } }

/-- The Acyclic Scheduler takes SEND_REQUEST. -/
def ownSendRequest (p : Port) (body : List Byte) (s : State) : State × Answer :=
  match readSend body with
  | none => s.refuse .badArgument
  | some g =>
    match nodeOf? g.node with
    | none => s.refuse .badArgument
    | some n =>
      if g.inRange = false then s.refuse .badArgument
      else
        match s.freeReqId with
        | none => s.refuse .queueFull
        | some id => (s.sendRequest p id n g, .reply .ok [byte id.val])

/-- SEND_REQUEST. -/
def execSendRequest (p : Port) (s : State) : Host.Outcome State Fault Refusal :=
  .next (s.serve p .sendRequest ownSendRequest)

/-! ### The checks both other commands share (R140, R141, R175) -/

/-- BAD_ARGUMENT, NO_SUCH and NOT_OWNER of a command that names an id. -/
def State.withOwnRequest (s : State) (p : Port) (body : List Byte) (act : ReqId → Request → State × Answer) :
    State × Answer :=
  match readOneByte body with
  | none => s.refuse .badArgument
  | some b =>
    match readReqId b with
    | none => s.refuse .badArgument
    | some id =>
      match s.request id with
      | none => s.refuse .noSuch
      | some q => if q.owner = p then act id q else s.refuse .notOwner

/-! ### FETCH_REQUEST (R58, R140, R175, R186) -/

/-- The data FETCH_REQUEST returns: bytes 0 to progress − 1 of the area for PARAM_READ, none for PARAM_WRITE (R58). -/
def State.requestData (s : State) (id : ReqId) (q : Request) : List Byte :=
  match q.kind with
  | .read => s.loadBytes (areaAddrs id 0 q.progress)
  | .write => []

/-- The body of a FETCH_REQUEST that is OK: kind, state, failure reason, length, progress, data (R186). -/
def State.fetchBytes (s : State) (id : ReqId) (q : Request) : List Byte :=
  [byte (reqKindCode q.kind), byte (reqStateCode q.state), byte (failReasonCode q.reason)] ++ be16 q.length ++
    be16 q.progress ++ s.requestData id q

/-- The body of NOT_READY: state, progress, place in the queue (R186). -/
def State.notReadyBytes (s : State) (id : ReqId) (q : Request) : List Byte :=
  [byte (reqStateCode q.state)] ++ be16 q.progress ++ [byte (placeIn s.acyclic.queue id)]

/-- The Acyclic Scheduler takes FETCH_REQUEST. -/
def ownFetchRequest (p : Port) (body : List Byte) (s : State) : State × Answer :=
  s.withOwnRequest p body fun id q =>
    match q.state with
    | .done | .failed => (s.freeRequest id, .reply .ok (s.fetchBytes id q))
    | .queued | .active | .cancelling => (s, .reply .notReady (s.notReadyBytes id q))

/-- FETCH_REQUEST. -/
def execFetchRequest (p : Port) (s : State) : Host.Outcome State Fault Refusal :=
  .next (s.serve p .fetchRequest ownFetchRequest)

/-! ### CANCEL_REQUEST (R141, R142, R175) -/

/-- The Acyclic Scheduler takes CANCEL_REQUEST. A request freed may have been the last that the acyclic phase could
serve, which then ends at that moment (R133; log entry 12). -/
def ownCancelRequest (p : Port) (body : List Byte) (s : State) : State × Answer :=
  s.withOwnRequest p body fun id q =>
    if q.state = .cancelling then s.refuse .wrongState
    else if q.state = .active ∧ s.requestInFlight id = true then (s.cancel id q, .park (.cancel id))
    else ((s.cancel id q).advance, .reply .ok ([byte (reqStateCode q.state)] ++ be16 q.progress))

/-- CANCEL_REQUEST. -/
def execCancelRequest (p : Port) (s : State) : Host.Outcome State Fault Refusal :=
  .next (s.serve p .cancelRequest ownCancelRequest)

end Sys2Proof.Machine
end

