-- ==== Sys2Proof/Machine/RosterCommands.lean ====
section
/-! DEFINITION. The two commands of the Node Roster: READ_NODE and SCAN_NODES (Chapter 7, R176). -/

namespace Sys2Proof.Machine

/-! ### READ_NODE (R116, R176, R186) -/

/-- The presence of an identity and its fields, all 0 when it is absent. Table 12-6 codes neither the node type code
nor the channel count nor the largest payload: 2, 1 and 1 bytes, as a probe reply has them (Table 12-3), is the
model's choice (DESIGN CHOICE, log entry 31). -/
def identityBytes : Option Identity → List Byte
  | some i => [1] ++ be16 i.typeCode ++ [byte i.channels, byte i.largest]
  | none => [0, 0, 0, 0, 0]

/-- The body of a READ_NODE result: state, identity, failures, stream count, place in the probe list. Table 12-6 codes
neither the consecutive failures nor the stream count: one byte each is the model's choice (DESIGN CHOICE, log entry
31). -/
def State.nodeBytes (s : State) (n : Node) : List Byte :=
  let e := s.node n
  [byte (nodeStateCode e.state)] ++ identityBytes e.identity ++
    [byte e.failures, byte e.streams, byte (placeIn s.acyclic.probeList n)]

/-- The Node Roster takes READ_NODE. -/
def ownReadNode (_ : Port) (body : List Byte) (s : State) : State × Answer :=
  match readOneByte body with
  | none => s.refuse .badArgument
  | some b =>
    match nodeOf? b.toNat with
    | none => s.refuse .badArgument
    | some n => (s, .reply .ok (s.nodeBytes n))

/-- READ_NODE. -/
def execReadNode (p : Port) (s : State) : Host.Outcome State Fault Refusal :=
  .next (s.serve p .readNode ownReadNode)

/-! ### SCAN_NODES (R125, R127, R176) -/

/-- The addresses SCAN_NODES appends: UNKNOWN or ABSENT and not listed, ascending. -/
def State.scanNew (s : State) : List Node :=
  nodes.filter fun n =>
    ((s.node n).state == .unknown || (s.node n).state == .absent) && !s.acyclic.probeList.contains n

/-- The addresses appended; scan pending becomes yes when there is at least one. -/
def State.scan (s : State) : State :=
  let s1 := s.appendProbes s.scanNew
  if s.scanNew = [] then s1 else { s1 with acyclic := { s1.acyclic with scanPending := true } }

/-- The Node Roster takes SCAN_NODES. Table 12-6 codes neither the number appended nor the number listed: one byte
each is the model's choice (DESIGN CHOICE, log entry 31). -/
def ownScanNodes (_ : Port) (body : List Byte) (s : State) : State × Answer :=
  match readNothing body with
  | none => s.refuse .badArgument
  | some _ => (s.scan, .reply .ok [byte s.scanNew.length, byte s.scan.acyclic.probeList.length])

/-- SCAN_NODES. -/
def execScanNodes (p : Port) (s : State) : Host.Outcome State Fault Refusal :=
  .next (s.serve p .scanNodes ownScanNodes)

end Sys2Proof.Machine
end

