-- ==== Sys2Proof/Machine/TrunkCommands.lean ====
section
/-! DEFINITION. The four commands of the Cycle Unit: START_TRUNK, HALT_TRUNK, SET_CONFIG and READ_CONFIG (Chapters 2
and 4, R177 to R179). -/

namespace Sys2Proof.Machine

/-! ### START_TRUNK (R61 to R63, R177) -/

/-- The level of LFAULT as the Cycle Unit finds it; it is judged in the stopped states alone (R60, R61, R71). -/
def State.senseLfault (s : State) (lfault : Bool) : State :=
  if s.stopped then { s with pins := { s.pins with lfault := lfault } } else s

/-- The Cycle Unit takes START_TRUNK: the trunk restart, and the first restart mark falls due at that moment, on which a
busy line faults the trunk (R73). The result carries SYNCING in both cases (R61). -/
def ownStartTrunk (lfault : Bool) (_ : Port) (body : List Byte) (s : State) : State × Answer :=
  match readNothing body with
  | none => s.refuse .badArgument
  | some _ =>
    if s.stopped = false then s.refuse .wrongState
    else if lfault then (s.senseLfault true).refuse .lineFault
    else ((s.senseLfault false).trunkRestart.restartMarkFallsDue, .reply .ok [byte (trunkStateCode .syncing)])

/-- START_TRUNK. -/
def execStartTrunk (p : Port) (lfault : Bool) (s : State) : Host.Outcome State Fault Refusal :=
  .next (s.serve p .startTrunk (ownStartTrunk lfault))

/-! ### HALT_TRUNK (R64, R177) -/

/-- What an accepted HALT_TRUNK does: RUNNING drains; SYNCING halts at the end of the restart mark in transmission, or
at once between marks (R64). -/
def State.haltTrunk (s : State) : State :=
  match s.trunk.state with
  | .running => s.updTrunk fun u => { u with state := .draining }
  | .syncing =>
    if s.pins.tx.isSome then s.updTrunk fun u => { u with haltRequested := true } else s.enterHalted
  | .off | .draining | .halted | .faulted => s

/-- The Cycle Unit takes HALT_TRUNK; the result holds the trunk state and halt requested as the command leaves them
(R186). -/
def ownHaltTrunk (_ : Port) (body : List Byte) (s : State) : State × Answer :=
  match readNothing body with
  | none => s.refuse .badArgument
  | some _ =>
    if s.trunk.state = .running ∨ s.trunk.state = .syncing then
      (s.haltTrunk, .reply .ok [byte (trunkStateCode s.haltTrunk.trunk.state), boolByte s.haltTrunk.trunk.haltRequested])
    else s.refuse .wrongState

/-- HALT_TRUNK. -/
def execHaltTrunk (p : Port) (s : State) : Host.Outcome State Fault Refusal :=
  .next (s.serve p .haltTrunk ownHaltTrunk)

/-! ### SET_CONFIG (R36 to R38, R75, R178) -/

/-- The candidate C and A: a field that is not named is taken from the staged configuration when one is staged, else
from the applied configuration (R37). -/
def ConfigArgs.candidate (g : ConfigArgs) (u : CycleUnit) : Staged :=
  match u.staged with
  | some t => ⟨g.c.getD t.c, g.a.getD t.a⟩
  | none => ⟨g.c.getD u.applied.c, g.a.getD u.applied.a⟩

/-- The command names W, the silence threshold or the probe interval, which change only while the trunk is stopped. -/
def ConfigArgs.namesStopped (g : ConfigArgs) : Bool := g.w.isSome || g.threshold.isSome || g.interval.isSome

/-- The charges of a record at an index, its pending amendment's counted too (R38). -/
def StreamRecord.chargesAt (r : StreamRecord) (k : Nat) : Nat :=
  (dueAt r.params.period r.params.phase k).toNat +
  match r.amendment with
  | some am => (dueAt am.params.period am.params.phase k).toNat
  | none => 0

/-- The number of charges at an index. -/
def StreamTable.chargesAt (t : StreamTable) (k : Nat) : Nat :=
  (t.records.toList.map fun o =>
    match o with
    | some r => r.chargesAt k
    | none => 0).sum

/-- The Load Map recomputed for a new W: each entry plus the difference of the windows for every charge at it (R38). -/
def StreamTable.recomputed (t : StreamTable) (oldW newW : Nat) : Vector Nat 128 :=
  Vector.ofFn fun k => t.load[k.val] + t.chargesAt k.val * newW - t.chargesAt k.val * oldW

/-- The Cycle Unit as an admitted SET_CONFIG leaves it: applied at once while the trunk is stopped, staged otherwise
(R75). -/
def ConfigArgs.configured (g : ConfigArgs) (stopped : Bool) (u : CycleUnit) : CycleUnit :=
  let k := g.candidate u
  if stopped then
    { u with applied := { c := k.c, a := k.a, w := g.w.getD u.applied.w,
                          threshold := g.threshold.getD u.applied.threshold,
                          interval := g.interval.getD u.applied.interval } }
  else { u with staged := some k }

/-- The tests of R37, when C or A is named, and of R38, when W is named, both pass; R38's is made against the admission
limit that will stand after the command. -/
def State.configFits (s : State) (g : ConfigArgs) : Bool :=
  let k := g.candidate s.trunk
  ((g.c.isNone && g.a.isNone) || fitsBudget s.table.load (budget k.c k.a)) &&
  match g.w with
  | none => true
  | some w =>
    fitsBudget (s.table.recomputed s.trunk.applied.w w) ((g.configured s.stopped s.trunk).admissionLimit)

/-- An admitted SET_CONFIG carried out: a named W recomputes the Load Map, and fields applied at once raise
CONFIG_APPLIED to both ports (R38, R75). -/
def State.setConfig (s : State) (g : ConfigArgs) : State :=
  let s1 := match g.w with
    | some w => s.setLoad (s.table.recomputed s.trunk.applied.w w)
    | none => s
  let s2 := s1.updTrunk (g.configured s.stopped)
  if s.stopped then s2.raiseBoth .configApplied else s2

/-- The Cycle Unit takes SET_CONFIG. -/
def ownSetConfig (_ : Port) (body : List Byte) (s : State) : State × Answer :=
  match readSetConfig body with
  | none => s.refuse .badArgument
  | some g =>
    let k := g.candidate s.trunk
    if g.inRange = false ∨ k.c < 18 + k.a then s.refuse .badArgument
    else if s.stopped = false ∧ g.namesStopped = true then s.refuse .wrongState
    else if s.configFits g = false then s.refuse .noBudget
    else (s.setConfig g, .reply .ok ([boolByte (!s.stopped)] ++ (s.setConfig g).trunk.budgetBytes))

/-- SET_CONFIG. -/
def execSetConfig (p : Port) (s : State) : Host.Outcome State Fault Refusal :=
  .next (s.serve p .setConfig ownSetConfig)

/-! ### READ_CONFIG (R77, R179) -/

/-- The number of FREE request ids. -/
def State.freeReqIds (s : State) : Nat := reqIds.countP fun id => (s.request id).isNone

/-- The staged configuration's presence, C, A and budget, all 0 when nothing is staged (R186). -/
def CycleUnit.stagedBytes (u : CycleUnit) : List Byte :=
  match u.staged with
  | some t => [1] ++ be16 t.c ++ be16 t.a ++ be16 (budget t.c t.a)
  | none => [0, 0, 0, 0, 0, 0, 0]

/-- The body of a READ_CONFIG result (R179). -/
def State.configBytes (s : State) : List Byte :=
  let g := s.trunk.applied
  be16 g.c ++ be16 g.a ++ [byte g.w, byte g.threshold, byte g.interval] ++ be16 s.trunk.appliedBudget ++
    s.trunk.stagedBytes ++ [byte (trunkStateCode s.trunk.state), byte (faultCauseCode s.trunk.faultCause)] ++
    be16 s.trunk.cycle.toNat ++ [byte s.freeHandles.length] ++ be16 s.store.free.length ++ [byte s.freeReqIds] ++
    be16 (largestEntry s.table.load)

/-- The Cycle Unit takes READ_CONFIG, which changes nothing. -/
def ownReadConfig (_ : Port) (body : List Byte) (s : State) : State × Answer :=
  match readNothing body with
  | none => s.refuse .badArgument
  | some _ => (s, .reply .ok s.configBytes)

/-- READ_CONFIG. -/
def execReadConfig (p : Port) (s : State) : Host.Outcome State Fault Refusal :=
  .next (s.serve p .readConfig ownReadConfig)

end Sys2Proof.Machine
end

