-- ==== Sys2Proof/Machine/AttentionCommands.lean ====
section
/-! DEFINITION. The two commands of the Attention Unit, READ_ATTN and SET_ATTN_MASK (Chapter 9, R180), and the command
that has no owner, BAD_COMMAND (R161). -/

namespace Sys2Proof.Machine

/-! ### READ_ATTN (R151, R186) -/

/-- The entries a READ_ATTN returns: the first 16 present, in source order. -/
def AttnSet.firstEntries (t : AttnSet) : List (Fin 73 × ReasonSet) := t.entries.take 16

/-- The set after a READ_ATTN: the entries returned are removed. -/
def AttnSet.afterRead (t : AttnSet) : AttnSet := t.without (t.firstEntries.map Prod.fst)

/-- The number returned, the number remaining, then the source and the reasons of each entry (R186). -/
def AttnSet.readBytes (t : AttnSet) : List Byte :=
  [byte t.firstEntries.length, byte t.afterRead.entries.length] ++
    t.firstEntries.flatMap fun e => [byte e.1.val] ++ be16 e.2.toNat

/-- The Attention Unit takes READ_ATTN, which reads the set of the port that sends it. -/
def ownReadAttn (p : Port) (body : List Byte) (s : State) : State × Answer :=
  match readNothing body with
  | none => s.refuse .badArgument
  | some _ =>
    ({ s with attn := s.attn.put p (s.attn.get p).afterRead }, .reply .ok (s.attn.get p).readBytes)

/-- READ_ATTN. -/
def execReadAttn (p : Port) (s : State) : Host.Outcome State Fault Refusal :=
  .next (s.serve p .readAttn ownReadAttn)

/-! ### SET_ATTN_MASK (R149) -/

/-- The Attention Unit takes SET_ATTN_MASK; the result carries the mask as set. -/
def ownSetAttnMask (p : Port) (body : List Byte) (s : State) : State × Answer :=
  match readMask body with
  | none => s.refuse .badArgument
  | some m => (s.updPort p fun h => { h with mask := m }, .reply .ok (be16 m.toNat))

/-- SET_ATTN_MASK. -/
def execSetAttnMask (p : Port) (s : State) : Host.Outcome State Fault Refusal :=
  .next (s.serve p .setAttnMask ownSetAttnMask)

/-! ### BAD_COMMAND (R161) -/

/-- BAD_COMMAND: the arbiter takes a command whose code names no command and composes the result itself. -/
def execBadCommand (p : Port) (s : State) : Host.Outcome State Fault Refusal :=
  match s.takeCommand p (fun code => !codeDefined code) with
  | none => .next s
  | some (c, s1) => .next (s1.compose c.port c.tag .badCommand [])

end Sys2Proof.Machine
end

