-- ==== Sys2Proof/Machine/PortEvents.lean ====
section
/-! DEFINITION. What happens on the host ports: SEL falling and rising, the kind byte, PORT_RESET and the device reset
(Chapter 10). -/

namespace Sys2Proof.Machine

/-! ### The bytes and bits of a transaction on SCK, SDI and SDO (R154, R155, R166, Table 12-4) -/

/-- The whole bytes that SDI brings, from its level at each rising edge of SCK in turn, most significant bit first; a
byte left incomplete is disregarded. They are the bytes of the rows' operands, the kind byte first. -/
def sampledBytes : List Bool → List Byte
  | b7 :: b6 :: b5 :: b4 :: b3 :: b2 :: b1 :: b0 :: rest =>
    byte (128 * b7.toNat + 64 * b6.toNat + 32 * b5.toNat + 16 * b4.toNat + 8 * b3.toNat + 4 * b2.toNat + 2 * b1.toNat +
      b0.toNat) :: sampledBytes rest
  | _ => []

/-- The byte that a port shifts out at place `k` of a transaction: the status byte first, then the response frame of a
RESULT transaction, and fill bytes 0x00 beyond it and after the status byte of COMMAND and PORT_RESET (R154, R155,
R159). No rule says what a transaction shows whose kind byte is none of the three: it shows fill bytes too (DESIGN
CHOICE, log entry 32). -/
def shiftedByte (status : Byte) (response : Option (Bool × List Byte)) : Nat → Byte
  | 0 => status
  | k + 1 =>
    match response with
    | some (_, frame) => (frame[k]?).getD 0x00
    | none => 0x00

/-- The level of a port's SDO, `none` while it is not driven, after `falls` falling edges of SCK in the transaction in
progress: the first bit is out from the fall of SEL, each falling edge brings the next, most significant bit first, and
while SEL is high SDO is not driven (R154, R166). What a transaction that a reset discarded shows is a free value (log
entry 30). -/
def State.sdo (s : State) (p : Port) (falls : Nat) : Option Bool :=
  match (s.ports.get p).txn with
  | .high => none
  | .active status response => some ((shiftedByte status response (falls / 8)).getLsbD (7 - falls % 8))
  | .discarded => Config.sdoDiscarded s.freeIndex p falls

/-- SEL rises on a port: no transaction is in progress. -/
def State.selRises (s : State) (p : Port) : State := s.updPort p fun h => { h with txn := .high }

/-- A transaction that is not taken sets FRAME_ERROR (R154, R156, R163). -/
def State.frameError (s : State) (p : Port) : State :=
  s.updPort p fun h => { h with frameError := true, txn := .high }

/-! ### SEL_FALLS (R154, R155) -/

/-- SEL_FALLS: a transaction begins and the status byte is captured. -/
def execSelFalls (p : Port) (s : State) : Host.Outcome State Fault Refusal :=
  match (s.ports.get p).txn with
  | .high => .next (s.updPort p fun h => { h with txn := .active (s.statusByte p) none })
  | .active _ _ | .discarded => .next s

/-! ### KIND_BYTE_WHOLE (R159) -/

/-- The response frame of a RESULT transaction, and whether it is the held result: the frame in the holder, or the empty
response in IDLE and in WORKING. -/
def HostPort.response (h : HostPort) : Bool × List Byte :=
  match h.state with
  | .resultReady frame => (true, frame)
  | .idle | .working => (false, emptyResponse)

/-- KIND_BYTE_WHOLE: the kind byte RESULT is whole and the response frame is fixed. -/
def execKindByteWhole (p : Port) (s : State) : Host.Outcome State Fault Refusal :=
  match (s.ports.get p).txn with
  | .active status none => .next (s.updPort p fun h => { h with txn := .active status (some h.response) })
  | .active _ (some _) | .high | .discarded => .next s

/-! ### COMMAND_TRANSACTION (R154, R156, R157) -/

/-- A complete and good frame judged by the port state: taken in IDLE; taken in RESULT_READY, with the result discarded
and LOST set; dropped in WORKING, with DROPPED set (R157). -/
def State.judgeFrame (s : State) (p : Port) (c : Command) : State :=
  let taken := { s with arbiter := { s.arbiter with waiting := s.arbiter.waiting ++ [c] } }
  match (s.ports.get p).state with
  | .idle => taken.updPort p fun h => { h with state := .working, txn := .high }
  | .resultReady _ => taken.updPort p fun h => { h with state := .working, lost := true, txn := .high }
  | .working => s.updPort p fun h => { h with dropped := true, txn := .high }

/-- COMMAND_TRANSACTION: SEL rises on a COMMAND transaction. -/
def execCommandTransaction (p : Port) (sent : List Byte) (s : State) : Host.Outcome State Fault Refusal :=
  match (s.ports.get p).txn with
  | .active _ none =>
    match readCommandFrame p sent with
    | some c => .next (s.judgeFrame p c)
    | none => .next (s.frameError p)
  | .discarded => .next (s.selRises p)
  | .active _ (some _) | .high => .next s

/-! ### RESULT_TRANSACTION (R159) -/

/-- A result taken whole: the holder is emptied, the port is IDLE and the sticky flags are cleared. -/
def State.resultTaken (s : State) (p : Port) : State :=
  s.updPort p fun h =>
    { h with state := .idle, dropped := false, lost := false, frameError := false, txn := .high }

/-- RESULT_TRANSACTION: SEL rises on a RESULT transaction in which `clocked` bytes of the response were clocked out. -/
def execResultTransaction (p : Port) (clocked : Nat) (s : State) : Host.Outcome State Fault Refusal :=
  match (s.ports.get p).txn with
  | .active _ (some (held, frame)) =>
    if held = true ∧ frame.length ≤ clocked then .next (s.resultTaken p) else .next (s.selRises p)
  | .discarded => .next (s.selRises p)
  | .active _ none | .high => .next s

/-! ### PORT_RESET (R16, R146, R153, R163, R164) -/

/-- A live record of the reset port is retired (R16). -/
def State.retireOwned (p : Port) (s : State) (h : Handle) : State :=
  match s.record h with
  | none => s
  | some r => if r.owner = p then s.retire h r else s

/-- A request of the reset port is cancelled (R146). -/
def State.cancelOwned (p : Port) (s : State) (id : ReqId) : State :=
  match s.request id with
  | none => s
  | some q => if q.owner = p then s.cancel id q else s

/-- The arbiter at a port reset: the port's waiting command is withdrawn, its parked one becomes an orphan (R163). -/
def Arbiter.endSession (a : Arbiter) (p : Port) : Arbiter :=
  { waiting := a.waiting.filter fun c => c.port != p
    parked := a.parked.map fun k => if k.port = p then { k with orphan := true } else k }

/-- The port's session ended (R163). Its records and requests may have been the last that a phase waited for, which then
ends at that moment (R98, R106, R133; log entry 12). -/
def State.endSession (s : State) (p : Port) : State :=
  let s1 := { s with arbiter := s.arbiter.endSession p }
  let s2 := reqIds.foldl (State.cancelOwned p) (handles.foldl (State.retireOwned p) s1)
  (({ s2 with attn := s2.attn.put p .empty }).updPort p fun _ => .reset).advance

/-- PORT_RESET: SEL rises on a PORT_RESET transaction. -/
def execPortReset (p : Port) (sent : List Byte) (s : State) : Host.Outcome State Fault Refusal :=
  match (s.ports.get p).txn with
  | .active _ none => if confirmed sent then .next (s.endSession p) else .next (s.frameError p)
  | .discarded => .next (s.selRises p)
  | .active _ (some _) | .high => .next s

/-! ### TRANSACTION_NOT_TAKEN (R154, R156, R163) -/

/-- TRANSACTION_NOT_TAKEN: SEL rises on a transaction that is not taken; FRAME_ERROR is set and the port state is
unchanged. -/
def execTransactionNotTaken (p : Port) (sent : List Byte) (s : State) : Host.Outcome State Fault Refusal :=
  match (s.ports.get p).txn with
  | .active _ none => if notTaken p sent then .next (s.frameError p) else .next s
  | .discarded => .next (s.selRises p)
  | .active _ (some _) | .high => .next s

/-! ### DEVICE_RESET (R1, R25, R42, R60, R115, R130, R147, R165) -/

/-- A port after a device reset; a transaction whose SEL is low is disregarded to its end (R165). -/
def HostPort.afterReset (selLow : Bool) : HostPort :=
  { HostPort.reset with txn := if selLow then .discarded else .high }

/-- DEVICE_RESET: every block returns to its reset state. The contents of the Value Store are not cleared (R42): the
bytes of a reply that has been cut off stay where they were placed as they arrived (R48, R58, R84). The levels of the
input pins are not the block's own. The counter of free values moves on, since what SDO shows in a transaction the
reset discards is one (log entry 30). -/
def execDeviceReset (selLowA selLowB : Bool) (s : State) : Host.Outcome State Fault Refusal :=
  let s1 := s.placeArrived
  .next { State.reset with
    ports := ⟨.afterReset selLowA, .afterReset selLowB⟩
    store := { State.reset.store with mem := s1.store.mem }
    pins := ⟨s.pins.lfault, s.pins.rxBusy, none⟩
    freeIndex := s1.freeIndex + 1
    pending := s.pending }

end Sys2Proof.Machine
end

