-- ==== Sys2Proof/Machine/TrunkEvents.lean ====
section
/-! DEFINITION. The events of the Cycle Unit: LFAULT, marks due and ended, the end of a drain, the guard, and the expiry
of a lease (Chapters 1 and 4). An event that cannot come in a state leaves it as it stands (log entry 2). -/

namespace Sys2Proof.Machine

/-- A mark, or the end of a drain, falls due now: the cycle timer has run out. -/
def State.timerDue (s : State) : Bool :=
  match s.trunk.timer with
  | some t => s.reaches t
  | none => false

/-- LFAULT_ASSERTED: SYNCING, RUNNING and DRAINING fault; the other states do not change (R72). The bytes of a reply
that has been cut off have been placed as they arrived, and a byte of it still in reception keeps the line busy (R84,
R87, R90). -/
def execLfaultAsserted (s : State) : Host.Outcome State Fault Refusal :=
  let s1 := { s with pins := { s.pins with lfault := true } }
  if s.stopped then .next s1 else .next (s1.placeArrived.enterFaulted .lfaultAsserted)

/-- RESTART_MARK_DUE: the next restart mark falls due C after the one before it (R63). -/
def execRestartMarkDue (s : State) : Host.Outcome State Fault Refusal :=
  if s.trunk.state = .syncing ∧ s.trunk.marksSent < 4 ∧ s.timerDue = true then .next s.restartMarkFallsDue
  else .next s

/-- RESTART_MARK_END: the mark has been sent; with halt requested the trunk enters HALTED (R64). -/
def execRestartMarkEnd (s : State) : Host.Outcome State Fault Refusal :=
  if s.trunk.state = .syncing ∧ s.pins.tx.isSome = true then
    let s1 := (s.updTrunk fun u => { u with clock := 8 }).setTx none
    if s.trunk.haltRequested then .next s1.enterHalted else .next s1
  else .next s

/-- A cycle mark falls due now: in RUNNING, or in SYNCING after the fourth restart mark (R63, R65). -/
def State.cycleMarkDue (s : State) : Bool :=
  (s.trunk.state == .running || (s.trunk.state == .syncing && s.trunk.marksSent == 4)) && s.timerDue

/-- CYCLE_MARK_DUE: the mark begins and opens the next cycle, or the trunk faults on a busy line (R65, R73). -/
def execCycleMarkDue (s : State) : Host.Outcome State Fault Refusal :=
  if s.cycleMarkDue = false then .next s
  else if s.lineBusy then .next (s.enterFaulted .lineJammed)
  else .next s.beginCycleMark

/-- CYCLE_MARK_END: 8 byte-times after the mark began, CYCLIC begins; with nothing due the phases pass on at once
(R67). -/
def execCycleMarkEnd (s : State) : Host.Outcome State Fault Refusal :=
  if s.inCycle = true ∧ s.trunk.phase = .mark then
    .next ((s.updTrunk fun u => { u with clock := 8, phase := .cyclic }).setTx none).advance
  else .next s

/-- DRAIN_END: the moment the next mark would have fallen due; HALTED on a quiet line, FAULTED on a busy one (R70). -/
def execDrainEnd (s : State) : Host.Outcome State Fault Refusal :=
  if s.trunk.state = .draining ∧ s.timerDue = true then
    if s.lineBusy then .next (s.enterFaulted .lineJammed) else .next s.enterHalted
  else .next s

/-- The moment of GUARD_START: C − 10, or the present one when quieting has run past it. -/
def State.guardMoment (s : State) : Nat := max s.trunk.clock (s.trunk.applied.c - 10)

/-- GUARD_START: at C − 10 the guard begins and ends the acyclic phase (R68, R133). -/
def execGuardStart (s : State) : Host.Outcome State Fault Refusal :=
  if s.inCycle = true ∧ s.trunk.phase ≠ .idle ∧ s.trunk.phase ≠ .mark ∧ s.trunk.guard = false ∧
      s.reaches s.guardMoment = true then
    .next (s.updTrunk fun u => { u with clock := s.guardMoment, guard := true }).advance
  else .next s

/-- LEASE_EXPIRY: a lease remaining that a RUNNING cycle mark has counted down to 0 retires its record and raises
EXPIRED (R17). CYCLE_MARK_DUE takes it within its own step (log entry 10). -/
def execLeaseExpiry (h : Handle) (s : State) : Host.Outcome State Fault Refusal :=
  .next (s.expireLease h)

end Sys2Proof.Machine
end

