-- ==== Sys2Proof/Machine/ScheduleEvents.lean ====
section
/-! DEFINITION. The four starts: the schedulers turn to what comes next, make its fit test and start an exchange, or end
their phase (Chapters 6, 7 and 8). An event that cannot come in a state leaves it as it stands (log entry 2). -/

namespace Sys2Proof.Machine

/-- The Exchange Engine is ready: IDLE on a quiet line (R78). -/
def State.engineReady (s : State) : Bool := s.engine.state == .idle && !s.pins.rxBusy

/-- A scheduler may turn to its next entry: the trunk runs a cycle, it is the scheduler's phase, and no exchange is in
flight. -/
def State.turn (s : State) (phase : Phase) : Bool :=
  s.inCycle && s.trunk.phase == phase && s.engine.state.inFlight.isNone

/-- The turn of CYCLIC: entries whose records have left ACTIVE are passed over, and the next WAITING record starts its
first attempt when it fits before C − 10, or is crowded out (R97 to R99). -/
def State.turnCyclic (s : State) : State :=
  match s.nextWaiting with
  | none => s.advance
  | some h =>
    if s.engineReady = false then s
    else
      match s.record h with
      | none => s
      | some r =>
        if s.fitsGuard (slotCost s.trunk.applied.w r.params.len) then s.startStreamPoll h r else s.crowdOut.advance

/-- FIRST_ATTEMPT_START. -/
def execFirstAttemptStart (s : State) : Host.Outcome State Fault Refusal :=
  if s.turn .cyclic = true then .next s.passOver.turnCyclic else .next s

/-- The turn of RETRY: the head of the retry list starts its retry when it fits before 8 + B, or it and every retry
behind it are dropped (R106, R107). -/
def State.turnRetry (s : State) : State :=
  match s.sched.retry with
  | [] => s.advance
  | h :: rest =>
    if s.engineReady = false then s
    else
      match s.record h with
      | none => s
      | some r =>
        if s.fitsRetry (slotCost s.trunk.applied.w r.params.len) then
          ({ s with sched := { s.sched with retry := rest } }).startStreamPoll h r
        else s.dropRetries.advance

/-- RETRY_START. -/
def execRetryStart (s : State) : Host.Outcome State Fault Refusal :=
  if s.turn .retry = true then .next s.passOver.turnRetry else .next s

/-- Probe service ends for this cycle, and pieces are turned to (R126). -/
def State.toPieces (s : State) : State := (s.updTrunk fun u => { u with phase := .pieces }).advance

/-- The turn of probe service: the head of the list is probed when its slot fits before C − 10; two probes, an empty
list, a failed fit test and the guard end probe service (R126). -/
def State.turnProbe (s : State) : State :=
  match s.acyclic.probeList with
  | [] => s.toPieces
  | n :: _ =>
    if 2 ≤ s.acyclic.probesRun ∨ s.trunk.guard = true then s.toPieces
    else if s.engineReady = false then s
    else if s.fitsGuard (probeSlot s.trunk.applied.w) then s.startProbe n
    else s.toPieces

/-- PROBE_START. -/
def execProbeStart (s : State) : Host.Outcome State Fault Refusal :=
  if s.turn .probes = true then .next s.turnProbe else .next s

/-- ACYCLIC ends: the line is quiet until the next mark (R68). -/
def State.endAcyclic (s : State) : State := s.updTrunk fun u => { u with phase := .over }

/-- The turn of the acyclic queue: the piece of the request at the head starts when its slot fits before C − 10; an
empty queue, a head deferred in this phase, a failed fit test and the guard end ACYCLIC (R133). -/
def State.turnPiece (s : State) : State :=
  match s.acyclic.queue with
  | [] => s.endAcyclic
  | id :: _ =>
    if s.acyclic.headBlocked = true ∨ s.trunk.guard = true then s.endAcyclic
    else if s.engineReady = false then s
    else
      match s.request id with
      | none => s
      | some q =>
        if s.fitsGuard (pieceSlot s.trunk.applied.w q.pieceCount) then s.startPiece id q else s.endAcyclic

/-- PIECE_START. -/
def execPieceStart (s : State) : Host.Outcome State Fault Refusal :=
  if s.turn .pieces = true then .next s.turnPiece else .next s

end Sys2Proof.Machine
end

