-- ==== Sys2Proof/Machine/ExchangeEvents.lean ====
section
/-! DEFINITION. The events of the Exchange Engine: the poll sent, the reply begun and ended, the window and the slot run
out, quieting, and stray bytes (Chapter 5). An event that cannot come in a state leaves it as it stands (log entry 2). -/

namespace Sys2Proof.Machine

/-- The present moment moves on (log entry 4). -/
def State.setClock (s : State) (m : Nat) : State := s.updTrunk fun u => { u with clock := m }

/-- POLL_SENT: the last byte of the poll is sent, TXEN is released and the reply window begins (R82). -/
def execPollSent (s : State) : Host.Outcome State Fault Refusal :=
  match s.engine.state with
  | .polling x =>
    if s.reaches x.pollEnd then .next (((s.setClock x.pollEnd).setEngine (.awaiting x)).setTx none) else .next s
  | .idle | .awaiting _ | .receiving _ _ | .quieting _ => .next s

/-- REPLY_BEGIN: a start bit within the window, `turnaround` after the end of the poll (R82); the reply's reception
makes the line busy (R87). -/
def execReplyBegin (turnaround : Nat) (s : State) : Host.Outcome State Fault Refusal :=
  match s.engine.state with
  | .awaiting x =>
    if s.reaches (x.pollEnd + turnaround) then
      .next (((s.setClock (x.pollEnd + turnaround)).setRxd true).setEngine
        (.receiving x (x.pollEnd + turnaround)))
    else .next s
  | .idle | .polling _ | .receiving _ _ | .quieting _ => .next s

/-- EXCHANGE_TIMEOUT: W passes with no reply begun (R82). -/
def execExchangeTimeout (s : State) : Host.Outcome State Fault Refusal :=
  match s.engine.state with
  | .awaiting x =>
    if s.reaches (x.pollEnd + s.trunk.applied.w) then
      .next (((s.setClock (x.pollEnd + s.trunk.applied.w)).setEngine .idle).endExchange x .timeout)
    else .next s
  | .idle | .polling _ | .receiving _ _ | .quieting _ => .next s

/-- The moment a reply ends: its last byte when it is complete, a byte-time after it when it ends short (R83). -/
def replyEndMoment (p : Poll) (start : Nat) (bytes : List Byte) (gaps : Nat) : Nat :=
  start + (replyFrame p bytes).length + gaps + if replyComplete p bytes then 0 else 1

/-- REPLY_END: the reply is complete or has ended short by the slot end; its payload bytes have been placed, no byte
is in reception, and it is judged (R84, R85, R87). -/
def execReplyEnd (bytes : List Byte) (gaps : Nat) (s : State) : Host.Outcome State Fault Refusal :=
  match s.engine.state with
  | .receiving x start =>
    let m := replyEndMoment x.poll start bytes gaps
    if bytes ≠ [] ∧ gaps ≤ (replyFrame x.poll bytes).length - 2 ∧ s.reaches m = true then
      .next (((((s.setClock m).placePayload x.poll (replyPayload x.poll bytes)).setRxd false).setEngine
        .idle).endExchange x (judgeReply x bytes))
    else .next s
  | .idle | .polling _ | .awaiting _ | .quieting _ => .next s

/-- The bytes received whole can be those of a reply still arriving at the slot end: not complete, one byte-time each,
with less than a byte-time between two of them and around the last (R83, R85). -/
def stillArriving (p : Poll) (span : Nat) (bytes : List Byte) : Bool :=
  !replyComplete p bytes && decide (bytes.length ≤ span) && decide (span ≤ 2 * bytes.length)

/-- SLOT_END_OVERLONG: the slot ends while the engine is RECEIVING; the outcome is OVERLONG and the engine quiets (R85,
R88). -/
def execSlotEndOverlong (bytes : List Byte) (s : State) : Host.Outcome State Fault Refusal :=
  match s.engine.state with
  | .receiving x start =>
    if stillArriving x.poll (x.slotEnd - start) bytes = true ∧ s.reaches x.slotEnd = true then
      .next ((((s.setClock x.slotEnd).placePayload x.poll (replyPayload x.poll bytes)).setEngine
        (.quieting x.slotEnd)).endExchange x .overlong)
    else .next s
  | .idle | .polling _ | .awaiting _ | .quieting _ => .next s

/-- QUIETING_END: a byte-time has passed with no byte begun, `after` byte-times after the slot end (R88). -/
def execQuietingEnd (after : Nat) (s : State) : Host.Outcome State Fault Refusal :=
  match s.engine.state with
  | .quieting slotEnd =>
    if 1 ≤ after ∧ s.reaches (slotEnd + after) = true then
      .next (((s.setClock (slotEnd + after)).setRxd false).setEngine .idle)
    else .next s
  | .idle | .polling _ | .awaiting _ | .receiving _ _ => .next s

/-- QUIETING_BOUND: 16 byte-times after the slot end the line is still busy, and the trunk faults (R89). -/
def execQuietingBound (s : State) : Host.Outcome State Fault Refusal :=
  match s.engine.state with
  | .quieting slotEnd =>
    if s.inCycle = true ∧ s.reaches (slotEnd + 16) = true then
      .next (s.enterFaulted .lineJammed)
    else .next s
  | .idle | .polling _ | .awaiting _ | .receiving _ _ => .next s

/-- STRAY_BYTES: a stray byte's reception begins or ends while the engine is IDLE and TXEN is released; the line is busy
while it lasts (R87). -/
def execStrayBytes (elapsed : Nat) (receiving : Bool) (s : State) : Host.Outcome State Fault Refusal :=
  if s.engine.state = .idle ∧ s.pins.tx = none then
    let s1 := s.setRxd receiving
    match s.trunk.timer with
    | none => .next s1
    | some _ =>
      if s.reaches (s.trunk.clock + elapsed) then .next (s1.setClock (s.trunk.clock + elapsed)) else .next s
  else .next s

end Sys2Proof.Machine
end

