-- ==== Sys2Proof/Machine/Dispatch.lean ====
section
/-! DEFINITION. One command's effect on everything but the queue: one arm for each row of the spec's table, each one
direct call of that row's meaning. -/

namespace Sys2Proof.Machine

/-- The command's effect on the state. -/
def exec (i : Instr) (s : State) : Host.Outcome State Fault Refusal :=
  match i with
  | .openStream p => Sys2Proof.Machine.execOpenStream p s
  | .amendStream p => Sys2Proof.Machine.execAmendStream p s
  | .closeStream p => Sys2Proof.Machine.execCloseStream p s
  | .readStream p => Sys2Proof.Machine.execReadStream p s
  | .findStream p => Sys2Proof.Machine.execFindStream p s
  | .postValue p => Sys2Proof.Machine.execPostValue p s
  | .renewLeases p => Sys2Proof.Machine.execRenewLeases p s
  | .restartStream p => Sys2Proof.Machine.execRestartStream p s
  | .readLoad p => Sys2Proof.Machine.execReadLoad p s
  | .sendRequest p => Sys2Proof.Machine.execSendRequest p s
  | .fetchRequest p => Sys2Proof.Machine.execFetchRequest p s
  | .cancelRequest p => Sys2Proof.Machine.execCancelRequest p s
  | .readNode p => Sys2Proof.Machine.execReadNode p s
  | .scanNodes p => Sys2Proof.Machine.execScanNodes p s
  | .startTrunk p lfault => Sys2Proof.Machine.execStartTrunk p lfault s
  | .haltTrunk p => Sys2Proof.Machine.execHaltTrunk p s
  | .setConfig p => Sys2Proof.Machine.execSetConfig p s
  | .readConfig p => Sys2Proof.Machine.execReadConfig p s
  | .readAttn p => Sys2Proof.Machine.execReadAttn p s
  | .setAttnMask p => Sys2Proof.Machine.execSetAttnMask p s
  | .badCommand p => Sys2Proof.Machine.execBadCommand p s
  | .commandTransaction p sent => Sys2Proof.Machine.execCommandTransaction p sent s
  | .resultTransaction p clocked => Sys2Proof.Machine.execResultTransaction p clocked s
  | .portReset p sent => Sys2Proof.Machine.execPortReset p sent s
  | .transactionNotTaken p sent => Sys2Proof.Machine.execTransactionNotTaken p sent s
  | .deviceReset selLowA selLowB => Sys2Proof.Machine.execDeviceReset selLowA selLowB s
  | .lfaultAsserted => Sys2Proof.Machine.execLfaultAsserted s
  | .restartMarkDue => Sys2Proof.Machine.execRestartMarkDue s
  | .restartMarkEnd => Sys2Proof.Machine.execRestartMarkEnd s
  | .cycleMarkDue => Sys2Proof.Machine.execCycleMarkDue s
  | .cycleMarkEnd => Sys2Proof.Machine.execCycleMarkEnd s
  | .drainEnd => Sys2Proof.Machine.execDrainEnd s
  | .guardStart => Sys2Proof.Machine.execGuardStart s
  | .leaseExpiry h => Sys2Proof.Machine.execLeaseExpiry h s
  | .firstAttemptStart => Sys2Proof.Machine.execFirstAttemptStart s
  | .retryStart => Sys2Proof.Machine.execRetryStart s
  | .probeStart => Sys2Proof.Machine.execProbeStart s
  | .pieceStart => Sys2Proof.Machine.execPieceStart s
  | .pollSent => Sys2Proof.Machine.execPollSent s
  | .replyBegin turnaround => Sys2Proof.Machine.execReplyBegin turnaround s
  | .exchangeTimeout => Sys2Proof.Machine.execExchangeTimeout s
  | .replyEnd bytes gaps => Sys2Proof.Machine.execReplyEnd bytes gaps s
  | .slotEndOverlong bytes => Sys2Proof.Machine.execSlotEndOverlong bytes s
  | .quietingEnd after => Sys2Proof.Machine.execQuietingEnd after s
  | .quietingBound => Sys2Proof.Machine.execQuietingBound s
  | .selFalls p => Sys2Proof.Machine.execSelFalls p s
  | .kindByteWhole p => Sys2Proof.Machine.execKindByteWhole p s
  | .strayBytes elapsed receiving => Sys2Proof.Machine.execStrayBytes elapsed receiving s

end Sys2Proof.Machine
end

