-- ==== Sys2Proof/Laws/State.lean ====
section
/-! SUPPORT. One lemma for each field of State and each plain update of it: the field the update replaces, and the fields
it leaves. No later proof unfolds a record update. -/

namespace Sys2Proof.Machine

variable (s : State)

/-! ### State.setRecord -/

@[simp] theorem State.ports_setRecord (h : Handle) (r : Option StreamRecord) :
    (s.setRecord h r).ports = s.ports := rfl
@[simp] theorem State.attn_setRecord (h : Handle) (r : Option StreamRecord) : (s.setRecord h r).attn = s.attn := rfl
@[simp] theorem State.arbiter_setRecord (h : Handle) (r : Option StreamRecord) :
    (s.setRecord h r).arbiter = s.arbiter := rfl
@[simp] theorem State.table_setRecord (h : Handle) (r : Option StreamRecord) :
    (s.setRecord h r).table = { s.table with records := s.table.records.set h.val r h.isLt } := rfl
@[simp] theorem State.store_setRecord (h : Handle) (r : Option StreamRecord) :
    (s.setRecord h r).store = s.store := rfl
@[simp] theorem State.trunk_setRecord (h : Handle) (r : Option StreamRecord) :
    (s.setRecord h r).trunk = s.trunk := rfl
@[simp] theorem State.sched_setRecord (h : Handle) (r : Option StreamRecord) :
    (s.setRecord h r).sched = s.sched := rfl
@[simp] theorem State.acyclic_setRecord (h : Handle) (r : Option StreamRecord) :
    (s.setRecord h r).acyclic = s.acyclic := rfl
@[simp] theorem State.engine_setRecord (h : Handle) (r : Option StreamRecord) :
    (s.setRecord h r).engine = s.engine := rfl
@[simp] theorem State.roster_setRecord (h : Handle) (r : Option StreamRecord) :
    (s.setRecord h r).roster = s.roster := rfl
@[simp] theorem State.pins_setRecord (h : Handle) (r : Option StreamRecord) : (s.setRecord h r).pins = s.pins := rfl
@[simp] theorem State.freeIndex_setRecord (h : Handle) (r : Option StreamRecord) :
    (s.setRecord h r).freeIndex = s.freeIndex := rfl
@[simp] theorem State.pending_setRecord (h : Handle) (r : Option StreamRecord) :
    (s.setRecord h r).pending = s.pending := rfl

/-! ### State.setLoad -/

@[simp] theorem State.ports_setLoad (load : Vector Nat 128) : (s.setLoad load).ports = s.ports := rfl
@[simp] theorem State.attn_setLoad (load : Vector Nat 128) : (s.setLoad load).attn = s.attn := rfl
@[simp] theorem State.arbiter_setLoad (load : Vector Nat 128) : (s.setLoad load).arbiter = s.arbiter := rfl
@[simp] theorem State.table_setLoad (load : Vector Nat 128) :
    (s.setLoad load).table = { s.table with load := load } := rfl
@[simp] theorem State.store_setLoad (load : Vector Nat 128) : (s.setLoad load).store = s.store := rfl
@[simp] theorem State.trunk_setLoad (load : Vector Nat 128) : (s.setLoad load).trunk = s.trunk := rfl
@[simp] theorem State.sched_setLoad (load : Vector Nat 128) : (s.setLoad load).sched = s.sched := rfl
@[simp] theorem State.acyclic_setLoad (load : Vector Nat 128) : (s.setLoad load).acyclic = s.acyclic := rfl
@[simp] theorem State.engine_setLoad (load : Vector Nat 128) : (s.setLoad load).engine = s.engine := rfl
@[simp] theorem State.roster_setLoad (load : Vector Nat 128) : (s.setLoad load).roster = s.roster := rfl
@[simp] theorem State.pins_setLoad (load : Vector Nat 128) : (s.setLoad load).pins = s.pins := rfl
@[simp] theorem State.freeIndex_setLoad (load : Vector Nat 128) : (s.setLoad load).freeIndex = s.freeIndex := rfl
@[simp] theorem State.pending_setLoad (load : Vector Nat 128) : (s.setLoad load).pending = s.pending := rfl

/-! ### State.setNode -/

@[simp] theorem State.ports_setNode (n : Node) (e : RosterEntry) : (s.setNode n e).ports = s.ports := rfl
@[simp] theorem State.attn_setNode (n : Node) (e : RosterEntry) : (s.setNode n e).attn = s.attn := rfl
@[simp] theorem State.arbiter_setNode (n : Node) (e : RosterEntry) : (s.setNode n e).arbiter = s.arbiter := rfl
@[simp] theorem State.table_setNode (n : Node) (e : RosterEntry) : (s.setNode n e).table = s.table := rfl
@[simp] theorem State.store_setNode (n : Node) (e : RosterEntry) : (s.setNode n e).store = s.store := rfl
@[simp] theorem State.trunk_setNode (n : Node) (e : RosterEntry) : (s.setNode n e).trunk = s.trunk := rfl
@[simp] theorem State.sched_setNode (n : Node) (e : RosterEntry) : (s.setNode n e).sched = s.sched := rfl
@[simp] theorem State.acyclic_setNode (n : Node) (e : RosterEntry) : (s.setNode n e).acyclic = s.acyclic := rfl
@[simp] theorem State.engine_setNode (n : Node) (e : RosterEntry) : (s.setNode n e).engine = s.engine := rfl
@[simp] theorem State.roster_setNode (n : Node) (e : RosterEntry) :
    (s.setNode n e).roster = s.roster.set n.val e n.isLt := rfl
@[simp] theorem State.pins_setNode (n : Node) (e : RosterEntry) : (s.setNode n e).pins = s.pins := rfl
@[simp] theorem State.freeIndex_setNode (n : Node) (e : RosterEntry) : (s.setNode n e).freeIndex = s.freeIndex := rfl
@[simp] theorem State.pending_setNode (n : Node) (e : RosterEntry) : (s.setNode n e).pending = s.pending := rfl

/-! ### State.setRequest -/

@[simp] theorem State.ports_setRequest (id : ReqId) (q : Option Request) : (s.setRequest id q).ports = s.ports := rfl
@[simp] theorem State.attn_setRequest (id : ReqId) (q : Option Request) : (s.setRequest id q).attn = s.attn := rfl
@[simp] theorem State.arbiter_setRequest (id : ReqId) (q : Option Request) :
    (s.setRequest id q).arbiter = s.arbiter := rfl
@[simp] theorem State.table_setRequest (id : ReqId) (q : Option Request) : (s.setRequest id q).table = s.table := rfl
@[simp] theorem State.store_setRequest (id : ReqId) (q : Option Request) : (s.setRequest id q).store = s.store := rfl
@[simp] theorem State.trunk_setRequest (id : ReqId) (q : Option Request) : (s.setRequest id q).trunk = s.trunk := rfl
@[simp] theorem State.sched_setRequest (id : ReqId) (q : Option Request) : (s.setRequest id q).sched = s.sched := rfl
@[simp] theorem State.acyclic_setRequest (id : ReqId) (q : Option Request) :
    (s.setRequest id q).acyclic = { s.acyclic with requests := s.acyclic.requests.set id.val q id.isLt } := rfl
@[simp] theorem State.engine_setRequest (id : ReqId) (q : Option Request) :
    (s.setRequest id q).engine = s.engine := rfl
@[simp] theorem State.roster_setRequest (id : ReqId) (q : Option Request) :
    (s.setRequest id q).roster = s.roster := rfl
@[simp] theorem State.pins_setRequest (id : ReqId) (q : Option Request) : (s.setRequest id q).pins = s.pins := rfl
@[simp] theorem State.freeIndex_setRequest (id : ReqId) (q : Option Request) :
    (s.setRequest id q).freeIndex = s.freeIndex := rfl
@[simp] theorem State.pending_setRequest (id : ReqId) (q : Option Request) :
    (s.setRequest id q).pending = s.pending := rfl

/-! ### State.updTrunk -/

@[simp] theorem State.ports_updTrunk (f : CycleUnit → CycleUnit) : (s.updTrunk f).ports = s.ports := rfl
@[simp] theorem State.attn_updTrunk (f : CycleUnit → CycleUnit) : (s.updTrunk f).attn = s.attn := rfl
@[simp] theorem State.arbiter_updTrunk (f : CycleUnit → CycleUnit) : (s.updTrunk f).arbiter = s.arbiter := rfl
@[simp] theorem State.table_updTrunk (f : CycleUnit → CycleUnit) : (s.updTrunk f).table = s.table := rfl
@[simp] theorem State.store_updTrunk (f : CycleUnit → CycleUnit) : (s.updTrunk f).store = s.store := rfl
@[simp] theorem State.trunk_updTrunk (f : CycleUnit → CycleUnit) : (s.updTrunk f).trunk = f s.trunk := rfl
@[simp] theorem State.sched_updTrunk (f : CycleUnit → CycleUnit) : (s.updTrunk f).sched = s.sched := rfl
@[simp] theorem State.acyclic_updTrunk (f : CycleUnit → CycleUnit) : (s.updTrunk f).acyclic = s.acyclic := rfl
@[simp] theorem State.engine_updTrunk (f : CycleUnit → CycleUnit) : (s.updTrunk f).engine = s.engine := rfl
@[simp] theorem State.roster_updTrunk (f : CycleUnit → CycleUnit) : (s.updTrunk f).roster = s.roster := rfl
@[simp] theorem State.pins_updTrunk (f : CycleUnit → CycleUnit) : (s.updTrunk f).pins = s.pins := rfl
@[simp] theorem State.freeIndex_updTrunk (f : CycleUnit → CycleUnit) : (s.updTrunk f).freeIndex = s.freeIndex := rfl
@[simp] theorem State.pending_updTrunk (f : CycleUnit → CycleUnit) : (s.updTrunk f).pending = s.pending := rfl

/-! ### State.setClock -/

@[simp] theorem State.ports_setClock (m : Nat) : (s.setClock m).ports = s.ports := rfl
@[simp] theorem State.attn_setClock (m : Nat) : (s.setClock m).attn = s.attn := rfl
@[simp] theorem State.arbiter_setClock (m : Nat) : (s.setClock m).arbiter = s.arbiter := rfl
@[simp] theorem State.table_setClock (m : Nat) : (s.setClock m).table = s.table := rfl
@[simp] theorem State.store_setClock (m : Nat) : (s.setClock m).store = s.store := rfl
@[simp] theorem State.trunk_setClock (m : Nat) : (s.setClock m).trunk = { s.trunk with clock := m } := rfl
@[simp] theorem State.sched_setClock (m : Nat) : (s.setClock m).sched = s.sched := rfl
@[simp] theorem State.acyclic_setClock (m : Nat) : (s.setClock m).acyclic = s.acyclic := rfl
@[simp] theorem State.engine_setClock (m : Nat) : (s.setClock m).engine = s.engine := rfl
@[simp] theorem State.roster_setClock (m : Nat) : (s.setClock m).roster = s.roster := rfl
@[simp] theorem State.pins_setClock (m : Nat) : (s.setClock m).pins = s.pins := rfl
@[simp] theorem State.freeIndex_setClock (m : Nat) : (s.setClock m).freeIndex = s.freeIndex := rfl
@[simp] theorem State.pending_setClock (m : Nat) : (s.setClock m).pending = s.pending := rfl

/-! ### State.setTx -/

@[simp] theorem State.ports_setTx (tx : Option (List Byte)) : (s.setTx tx).ports = s.ports := rfl
@[simp] theorem State.attn_setTx (tx : Option (List Byte)) : (s.setTx tx).attn = s.attn := rfl
@[simp] theorem State.arbiter_setTx (tx : Option (List Byte)) : (s.setTx tx).arbiter = s.arbiter := rfl
@[simp] theorem State.table_setTx (tx : Option (List Byte)) : (s.setTx tx).table = s.table := rfl
@[simp] theorem State.store_setTx (tx : Option (List Byte)) : (s.setTx tx).store = s.store := rfl
@[simp] theorem State.trunk_setTx (tx : Option (List Byte)) : (s.setTx tx).trunk = s.trunk := rfl
@[simp] theorem State.sched_setTx (tx : Option (List Byte)) : (s.setTx tx).sched = s.sched := rfl
@[simp] theorem State.acyclic_setTx (tx : Option (List Byte)) : (s.setTx tx).acyclic = s.acyclic := rfl
@[simp] theorem State.engine_setTx (tx : Option (List Byte)) : (s.setTx tx).engine = s.engine := rfl
@[simp] theorem State.roster_setTx (tx : Option (List Byte)) : (s.setTx tx).roster = s.roster := rfl
@[simp] theorem State.pins_setTx (tx : Option (List Byte)) : (s.setTx tx).pins = { s.pins with tx := tx } := rfl
@[simp] theorem State.freeIndex_setTx (tx : Option (List Byte)) : (s.setTx tx).freeIndex = s.freeIndex := rfl
@[simp] theorem State.pending_setTx (tx : Option (List Byte)) : (s.setTx tx).pending = s.pending := rfl

/-! ### State.setRxd -/

@[simp] theorem State.ports_setRxd (receiving : Bool) : (s.setRxd receiving).ports = s.ports := rfl
@[simp] theorem State.attn_setRxd (receiving : Bool) : (s.setRxd receiving).attn = s.attn := rfl
@[simp] theorem State.arbiter_setRxd (receiving : Bool) : (s.setRxd receiving).arbiter = s.arbiter := rfl
@[simp] theorem State.table_setRxd (receiving : Bool) : (s.setRxd receiving).table = s.table := rfl
@[simp] theorem State.store_setRxd (receiving : Bool) : (s.setRxd receiving).store = s.store := rfl
@[simp] theorem State.trunk_setRxd (receiving : Bool) : (s.setRxd receiving).trunk = s.trunk := rfl
@[simp] theorem State.sched_setRxd (receiving : Bool) : (s.setRxd receiving).sched = s.sched := rfl
@[simp] theorem State.acyclic_setRxd (receiving : Bool) : (s.setRxd receiving).acyclic = s.acyclic := rfl
@[simp] theorem State.engine_setRxd (receiving : Bool) : (s.setRxd receiving).engine = s.engine := rfl
@[simp] theorem State.roster_setRxd (receiving : Bool) : (s.setRxd receiving).roster = s.roster := rfl
@[simp] theorem State.pins_setRxd (receiving : Bool) :
    (s.setRxd receiving).pins = { s.pins with rxBusy := receiving } := rfl
@[simp] theorem State.freeIndex_setRxd (receiving : Bool) : (s.setRxd receiving).freeIndex = s.freeIndex := rfl
@[simp] theorem State.pending_setRxd (receiving : Bool) : (s.setRxd receiving).pending = s.pending := rfl

/-! ### State.setEngine -/

@[simp] theorem State.ports_setEngine (e : EngineState) : (s.setEngine e).ports = s.ports := rfl
@[simp] theorem State.attn_setEngine (e : EngineState) : (s.setEngine e).attn = s.attn := rfl
@[simp] theorem State.arbiter_setEngine (e : EngineState) : (s.setEngine e).arbiter = s.arbiter := rfl
@[simp] theorem State.table_setEngine (e : EngineState) : (s.setEngine e).table = s.table := rfl
@[simp] theorem State.store_setEngine (e : EngineState) : (s.setEngine e).store = s.store := rfl
@[simp] theorem State.trunk_setEngine (e : EngineState) : (s.setEngine e).trunk = s.trunk := rfl
@[simp] theorem State.sched_setEngine (e : EngineState) : (s.setEngine e).sched = s.sched := rfl
@[simp] theorem State.acyclic_setEngine (e : EngineState) : (s.setEngine e).acyclic = s.acyclic := rfl
@[simp] theorem State.engine_setEngine (e : EngineState) :
    (s.setEngine e).engine = { s.engine with state := e } := rfl
@[simp] theorem State.roster_setEngine (e : EngineState) : (s.setEngine e).roster = s.roster := rfl
@[simp] theorem State.pins_setEngine (e : EngineState) : (s.setEngine e).pins = s.pins := rfl
@[simp] theorem State.freeIndex_setEngine (e : EngineState) : (s.setEngine e).freeIndex = s.freeIndex := rfl
@[simp] theorem State.pending_setEngine (e : EngineState) : (s.setEngine e).pending = s.pending := rfl

/-! ### State.updPort -/

@[simp] theorem State.ports_updPort (p : Port) (f : HostPort → HostPort) :
    (s.updPort p f).ports = s.ports.put p (f (s.ports.get p)) := rfl
@[simp] theorem State.attn_updPort (p : Port) (f : HostPort → HostPort) : (s.updPort p f).attn = s.attn := rfl
@[simp] theorem State.arbiter_updPort (p : Port) (f : HostPort → HostPort) :
    (s.updPort p f).arbiter = s.arbiter := rfl
@[simp] theorem State.table_updPort (p : Port) (f : HostPort → HostPort) : (s.updPort p f).table = s.table := rfl
@[simp] theorem State.store_updPort (p : Port) (f : HostPort → HostPort) : (s.updPort p f).store = s.store := rfl
@[simp] theorem State.trunk_updPort (p : Port) (f : HostPort → HostPort) : (s.updPort p f).trunk = s.trunk := rfl
@[simp] theorem State.sched_updPort (p : Port) (f : HostPort → HostPort) : (s.updPort p f).sched = s.sched := rfl
@[simp] theorem State.acyclic_updPort (p : Port) (f : HostPort → HostPort) :
    (s.updPort p f).acyclic = s.acyclic := rfl
@[simp] theorem State.engine_updPort (p : Port) (f : HostPort → HostPort) : (s.updPort p f).engine = s.engine := rfl
@[simp] theorem State.roster_updPort (p : Port) (f : HostPort → HostPort) : (s.updPort p f).roster = s.roster := rfl
@[simp] theorem State.pins_updPort (p : Port) (f : HostPort → HostPort) : (s.updPort p f).pins = s.pins := rfl
@[simp] theorem State.freeIndex_updPort (p : Port) (f : HostPort → HostPort) :
    (s.updPort p f).freeIndex = s.freeIndex := rfl
@[simp] theorem State.pending_updPort (p : Port) (f : HostPort → HostPort) :
    (s.updPort p f).pending = s.pending := rfl

/-! ### State.compose -/

@[simp] theorem State.attn_compose (p : Port) (tag : Byte) (r : ResultCode) (body : List Byte) :
    (s.compose p tag r body).attn = s.attn := rfl
@[simp] theorem State.arbiter_compose (p : Port) (tag : Byte) (r : ResultCode) (body : List Byte) :
    (s.compose p tag r body).arbiter = s.arbiter := rfl
@[simp] theorem State.table_compose (p : Port) (tag : Byte) (r : ResultCode) (body : List Byte) :
    (s.compose p tag r body).table = s.table := rfl
@[simp] theorem State.store_compose (p : Port) (tag : Byte) (r : ResultCode) (body : List Byte) :
    (s.compose p tag r body).store = s.store := rfl
@[simp] theorem State.trunk_compose (p : Port) (tag : Byte) (r : ResultCode) (body : List Byte) :
    (s.compose p tag r body).trunk = s.trunk := rfl
@[simp] theorem State.sched_compose (p : Port) (tag : Byte) (r : ResultCode) (body : List Byte) :
    (s.compose p tag r body).sched = s.sched := rfl
@[simp] theorem State.acyclic_compose (p : Port) (tag : Byte) (r : ResultCode) (body : List Byte) :
    (s.compose p tag r body).acyclic = s.acyclic := rfl
@[simp] theorem State.engine_compose (p : Port) (tag : Byte) (r : ResultCode) (body : List Byte) :
    (s.compose p tag r body).engine = s.engine := rfl
@[simp] theorem State.roster_compose (p : Port) (tag : Byte) (r : ResultCode) (body : List Byte) :
    (s.compose p tag r body).roster = s.roster := rfl
@[simp] theorem State.pins_compose (p : Port) (tag : Byte) (r : ResultCode) (body : List Byte) :
    (s.compose p tag r body).pins = s.pins := rfl
@[simp] theorem State.freeIndex_compose (p : Port) (tag : Byte) (r : ResultCode) (body : List Byte) :
    (s.compose p tag r body).freeIndex = s.freeIndex := rfl
@[simp] theorem State.pending_compose (p : Port) (tag : Byte) (r : ResultCode) (body : List Byte) :
    (s.compose p tag r body).pending = s.pending := rfl

/-! ### State.raise -/

@[simp] theorem State.ports_raise (p : Port) (src : Source) (r : Reason) : (s.raise p src r).ports = s.ports := rfl
@[simp] theorem State.attn_raise (p : Port) (src : Source) (r : Reason) :
    (s.raise p src r).attn = s.attn.put p ((s.attn.get p).raise src r) := rfl
@[simp] theorem State.arbiter_raise (p : Port) (src : Source) (r : Reason) :
    (s.raise p src r).arbiter = s.arbiter := rfl
@[simp] theorem State.table_raise (p : Port) (src : Source) (r : Reason) : (s.raise p src r).table = s.table := rfl
@[simp] theorem State.store_raise (p : Port) (src : Source) (r : Reason) : (s.raise p src r).store = s.store := rfl
@[simp] theorem State.trunk_raise (p : Port) (src : Source) (r : Reason) : (s.raise p src r).trunk = s.trunk := rfl
@[simp] theorem State.sched_raise (p : Port) (src : Source) (r : Reason) : (s.raise p src r).sched = s.sched := rfl
@[simp] theorem State.acyclic_raise (p : Port) (src : Source) (r : Reason) :
    (s.raise p src r).acyclic = s.acyclic := rfl
@[simp] theorem State.engine_raise (p : Port) (src : Source) (r : Reason) : (s.raise p src r).engine = s.engine := rfl
@[simp] theorem State.roster_raise (p : Port) (src : Source) (r : Reason) : (s.raise p src r).roster = s.roster := rfl
@[simp] theorem State.pins_raise (p : Port) (src : Source) (r : Reason) : (s.raise p src r).pins = s.pins := rfl
@[simp] theorem State.freeIndex_raise (p : Port) (src : Source) (r : Reason) :
    (s.raise p src r).freeIndex = s.freeIndex := rfl
@[simp] theorem State.pending_raise (p : Port) (src : Source) (r : Reason) :
    (s.raise p src r).pending = s.pending := rfl

/-! ### State.raiseBoth -/

@[simp] theorem State.ports_raiseBoth (r : Reason) : (s.raiseBoth r).ports = s.ports := rfl
@[simp] theorem State.arbiter_raiseBoth (r : Reason) : (s.raiseBoth r).arbiter = s.arbiter := rfl
@[simp] theorem State.table_raiseBoth (r : Reason) : (s.raiseBoth r).table = s.table := rfl
@[simp] theorem State.store_raiseBoth (r : Reason) : (s.raiseBoth r).store = s.store := rfl
@[simp] theorem State.trunk_raiseBoth (r : Reason) : (s.raiseBoth r).trunk = s.trunk := rfl
@[simp] theorem State.sched_raiseBoth (r : Reason) : (s.raiseBoth r).sched = s.sched := rfl
@[simp] theorem State.acyclic_raiseBoth (r : Reason) : (s.raiseBoth r).acyclic = s.acyclic := rfl
@[simp] theorem State.engine_raiseBoth (r : Reason) : (s.raiseBoth r).engine = s.engine := rfl
@[simp] theorem State.roster_raiseBoth (r : Reason) : (s.raiseBoth r).roster = s.roster := rfl
@[simp] theorem State.pins_raiseBoth (r : Reason) : (s.raiseBoth r).pins = s.pins := rfl
@[simp] theorem State.freeIndex_raiseBoth (r : Reason) : (s.raiseBoth r).freeIndex = s.freeIndex := rfl
@[simp] theorem State.pending_raiseBoth (r : Reason) : (s.raiseBoth r).pending = s.pending := rfl

/-! ### State.storeBytes -/

@[simp] theorem State.ports_storeBytes (addrs : List Nat) (values : List Byte) :
    (s.storeBytes addrs values).ports = s.ports := rfl
@[simp] theorem State.attn_storeBytes (addrs : List Nat) (values : List Byte) :
    (s.storeBytes addrs values).attn = s.attn := rfl
@[simp] theorem State.arbiter_storeBytes (addrs : List Nat) (values : List Byte) :
    (s.storeBytes addrs values).arbiter = s.arbiter := rfl
@[simp] theorem State.table_storeBytes (addrs : List Nat) (values : List Byte) :
    (s.storeBytes addrs values).table = s.table := rfl
@[simp] theorem State.store_storeBytes (addrs : List Nat) (values : List Byte) :
    (s.storeBytes addrs values).store = { s.store with mem := Memory.writeAll s.store.mem addrs values } := rfl
@[simp] theorem State.trunk_storeBytes (addrs : List Nat) (values : List Byte) :
    (s.storeBytes addrs values).trunk = s.trunk := rfl
@[simp] theorem State.sched_storeBytes (addrs : List Nat) (values : List Byte) :
    (s.storeBytes addrs values).sched = s.sched := rfl
@[simp] theorem State.acyclic_storeBytes (addrs : List Nat) (values : List Byte) :
    (s.storeBytes addrs values).acyclic = s.acyclic := rfl
@[simp] theorem State.engine_storeBytes (addrs : List Nat) (values : List Byte) :
    (s.storeBytes addrs values).engine = s.engine := rfl
@[simp] theorem State.roster_storeBytes (addrs : List Nat) (values : List Byte) :
    (s.storeBytes addrs values).roster = s.roster := rfl
@[simp] theorem State.pins_storeBytes (addrs : List Nat) (values : List Byte) :
    (s.storeBytes addrs values).pins = s.pins := rfl
@[simp] theorem State.freeIndex_storeBytes (addrs : List Nat) (values : List Byte) :
    (s.storeBytes addrs values).freeIndex = s.freeIndex := rfl
@[simp] theorem State.pending_storeBytes (addrs : List Nat) (values : List Byte) :
    (s.storeBytes addrs values).pending = s.pending := rfl

/-! ### State.takeBlocks -/

@[simp] theorem State.ports_takeBlocks (n : Nat) : (s.takeBlocks n).ports = s.ports := rfl
@[simp] theorem State.attn_takeBlocks (n : Nat) : (s.takeBlocks n).attn = s.attn := rfl
@[simp] theorem State.arbiter_takeBlocks (n : Nat) : (s.takeBlocks n).arbiter = s.arbiter := rfl
@[simp] theorem State.table_takeBlocks (n : Nat) : (s.takeBlocks n).table = s.table := rfl
@[simp] theorem State.store_takeBlocks (n : Nat) :
    (s.takeBlocks n).store = { s.store with free := s.store.free.drop n } := rfl
@[simp] theorem State.trunk_takeBlocks (n : Nat) : (s.takeBlocks n).trunk = s.trunk := rfl
@[simp] theorem State.sched_takeBlocks (n : Nat) : (s.takeBlocks n).sched = s.sched := rfl
@[simp] theorem State.acyclic_takeBlocks (n : Nat) : (s.takeBlocks n).acyclic = s.acyclic := rfl
@[simp] theorem State.engine_takeBlocks (n : Nat) : (s.takeBlocks n).engine = s.engine := rfl
@[simp] theorem State.roster_takeBlocks (n : Nat) : (s.takeBlocks n).roster = s.roster := rfl
@[simp] theorem State.pins_takeBlocks (n : Nat) : (s.takeBlocks n).pins = s.pins := rfl
@[simp] theorem State.freeIndex_takeBlocks (n : Nat) : (s.takeBlocks n).freeIndex = s.freeIndex := rfl
@[simp] theorem State.pending_takeBlocks (n : Nat) : (s.takeBlocks n).pending = s.pending := rfl

/-! ### State.releaseBlocks -/

@[simp] theorem State.ports_releaseBlocks (blocks : List Block) : (s.releaseBlocks blocks).ports = s.ports := rfl
@[simp] theorem State.attn_releaseBlocks (blocks : List Block) : (s.releaseBlocks blocks).attn = s.attn := rfl
@[simp] theorem State.arbiter_releaseBlocks (blocks : List Block) :
    (s.releaseBlocks blocks).arbiter = s.arbiter := rfl
@[simp] theorem State.table_releaseBlocks (blocks : List Block) : (s.releaseBlocks blocks).table = s.table := rfl
@[simp] theorem State.trunk_releaseBlocks (blocks : List Block) : (s.releaseBlocks blocks).trunk = s.trunk := rfl
@[simp] theorem State.sched_releaseBlocks (blocks : List Block) : (s.releaseBlocks blocks).sched = s.sched := rfl
@[simp] theorem State.acyclic_releaseBlocks (blocks : List Block) :
    (s.releaseBlocks blocks).acyclic = s.acyclic := rfl
@[simp] theorem State.engine_releaseBlocks (blocks : List Block) : (s.releaseBlocks blocks).engine = s.engine := rfl
@[simp] theorem State.roster_releaseBlocks (blocks : List Block) : (s.releaseBlocks blocks).roster = s.roster := rfl
@[simp] theorem State.pins_releaseBlocks (blocks : List Block) : (s.releaseBlocks blocks).pins = s.pins := rfl
@[simp] theorem State.freeIndex_releaseBlocks (blocks : List Block) :
    (s.releaseBlocks blocks).freeIndex = s.freeIndex := rfl
@[simp] theorem State.pending_releaseBlocks (blocks : List Block) :
    (s.releaseBlocks blocks).pending = s.pending := rfl

/-! ### State.updEntry -/

@[simp] theorem State.ports_updEntry (h : Handle) (f : ServiceEntry → ServiceEntry) :
    (s.updEntry h f).ports = s.ports := rfl
@[simp] theorem State.attn_updEntry (h : Handle) (f : ServiceEntry → ServiceEntry) :
    (s.updEntry h f).attn = s.attn := rfl
@[simp] theorem State.arbiter_updEntry (h : Handle) (f : ServiceEntry → ServiceEntry) :
    (s.updEntry h f).arbiter = s.arbiter := rfl
@[simp] theorem State.table_updEntry (h : Handle) (f : ServiceEntry → ServiceEntry) :
    (s.updEntry h f).table = s.table := rfl
@[simp] theorem State.store_updEntry (h : Handle) (f : ServiceEntry → ServiceEntry) :
    (s.updEntry h f).store = s.store := rfl
@[simp] theorem State.trunk_updEntry (h : Handle) (f : ServiceEntry → ServiceEntry) :
    (s.updEntry h f).trunk = s.trunk := rfl
@[simp] theorem State.acyclic_updEntry (h : Handle) (f : ServiceEntry → ServiceEntry) :
    (s.updEntry h f).acyclic = s.acyclic := rfl
@[simp] theorem State.engine_updEntry (h : Handle) (f : ServiceEntry → ServiceEntry) :
    (s.updEntry h f).engine = s.engine := rfl
@[simp] theorem State.roster_updEntry (h : Handle) (f : ServiceEntry → ServiceEntry) :
    (s.updEntry h f).roster = s.roster := rfl
@[simp] theorem State.pins_updEntry (h : Handle) (f : ServiceEntry → ServiceEntry) :
    (s.updEntry h f).pins = s.pins := rfl
@[simp] theorem State.freeIndex_updEntry (h : Handle) (f : ServiceEntry → ServiceEntry) :
    (s.updEntry h f).freeIndex = s.freeIndex := rfl
@[simp] theorem State.pending_updEntry (h : Handle) (f : ServiceEntry → ServiceEntry) :
    (s.updEntry h f).pending = s.pending := rfl

/-! ### State.excuse -/

@[simp] theorem State.ports_excuse (h : Handle) : (s.excuse h).ports = s.ports := rfl
@[simp] theorem State.attn_excuse (h : Handle) : (s.excuse h).attn = s.attn := rfl
@[simp] theorem State.arbiter_excuse (h : Handle) : (s.excuse h).arbiter = s.arbiter := rfl
@[simp] theorem State.table_excuse (h : Handle) : (s.excuse h).table = s.table := rfl
@[simp] theorem State.store_excuse (h : Handle) : (s.excuse h).store = s.store := rfl
@[simp] theorem State.trunk_excuse (h : Handle) : (s.excuse h).trunk = s.trunk := rfl
@[simp] theorem State.acyclic_excuse (h : Handle) : (s.excuse h).acyclic = s.acyclic := rfl
@[simp] theorem State.engine_excuse (h : Handle) : (s.excuse h).engine = s.engine := rfl
@[simp] theorem State.roster_excuse (h : Handle) : (s.excuse h).roster = s.roster := rfl
@[simp] theorem State.pins_excuse (h : Handle) : (s.excuse h).pins = s.pins := rfl
@[simp] theorem State.freeIndex_excuse (h : Handle) : (s.excuse h).freeIndex = s.freeIndex := rfl
@[simp] theorem State.pending_excuse (h : Handle) : (s.excuse h).pending = s.pending := rfl

/-! ### State.clearHandleAttn -/

@[simp] theorem State.ports_clearHandleAttn (h : Handle) : (s.clearHandleAttn h).ports = s.ports := rfl
@[simp] theorem State.arbiter_clearHandleAttn (h : Handle) : (s.clearHandleAttn h).arbiter = s.arbiter := rfl
@[simp] theorem State.table_clearHandleAttn (h : Handle) : (s.clearHandleAttn h).table = s.table := rfl
@[simp] theorem State.store_clearHandleAttn (h : Handle) : (s.clearHandleAttn h).store = s.store := rfl
@[simp] theorem State.trunk_clearHandleAttn (h : Handle) : (s.clearHandleAttn h).trunk = s.trunk := rfl
@[simp] theorem State.sched_clearHandleAttn (h : Handle) : (s.clearHandleAttn h).sched = s.sched := rfl
@[simp] theorem State.acyclic_clearHandleAttn (h : Handle) : (s.clearHandleAttn h).acyclic = s.acyclic := rfl
@[simp] theorem State.engine_clearHandleAttn (h : Handle) : (s.clearHandleAttn h).engine = s.engine := rfl
@[simp] theorem State.roster_clearHandleAttn (h : Handle) : (s.clearHandleAttn h).roster = s.roster := rfl
@[simp] theorem State.pins_clearHandleAttn (h : Handle) : (s.clearHandleAttn h).pins = s.pins := rfl
@[simp] theorem State.freeIndex_clearHandleAttn (h : Handle) : (s.clearHandleAttn h).freeIndex = s.freeIndex := rfl
@[simp] theorem State.pending_clearHandleAttn (h : Handle) : (s.clearHandleAttn h).pending = s.pending := rfl

/-! ### State.leaveQueue -/

@[simp] theorem State.ports_leaveQueue (id : ReqId) : (s.leaveQueue id).ports = s.ports := rfl
@[simp] theorem State.attn_leaveQueue (id : ReqId) : (s.leaveQueue id).attn = s.attn := rfl
@[simp] theorem State.arbiter_leaveQueue (id : ReqId) : (s.leaveQueue id).arbiter = s.arbiter := rfl
@[simp] theorem State.table_leaveQueue (id : ReqId) : (s.leaveQueue id).table = s.table := rfl
@[simp] theorem State.store_leaveQueue (id : ReqId) : (s.leaveQueue id).store = s.store := rfl
@[simp] theorem State.trunk_leaveQueue (id : ReqId) : (s.leaveQueue id).trunk = s.trunk := rfl
@[simp] theorem State.sched_leaveQueue (id : ReqId) : (s.leaveQueue id).sched = s.sched := rfl
@[simp] theorem State.engine_leaveQueue (id : ReqId) : (s.leaveQueue id).engine = s.engine := rfl
@[simp] theorem State.roster_leaveQueue (id : ReqId) : (s.leaveQueue id).roster = s.roster := rfl
@[simp] theorem State.pins_leaveQueue (id : ReqId) : (s.leaveQueue id).pins = s.pins := rfl
@[simp] theorem State.freeIndex_leaveQueue (id : ReqId) : (s.leaveQueue id).freeIndex = s.freeIndex := rfl
@[simp] theorem State.pending_leaveQueue (id : ReqId) : (s.leaveQueue id).pending = s.pending := rfl

/-! ### State.countStreamIn -/

@[simp] theorem State.ports_countStreamIn (n : Node) : (s.countStreamIn n).ports = s.ports := rfl
@[simp] theorem State.attn_countStreamIn (n : Node) : (s.countStreamIn n).attn = s.attn := rfl
@[simp] theorem State.arbiter_countStreamIn (n : Node) : (s.countStreamIn n).arbiter = s.arbiter := rfl
@[simp] theorem State.table_countStreamIn (n : Node) : (s.countStreamIn n).table = s.table := rfl
@[simp] theorem State.store_countStreamIn (n : Node) : (s.countStreamIn n).store = s.store := rfl
@[simp] theorem State.trunk_countStreamIn (n : Node) : (s.countStreamIn n).trunk = s.trunk := rfl
@[simp] theorem State.sched_countStreamIn (n : Node) : (s.countStreamIn n).sched = s.sched := rfl
@[simp] theorem State.acyclic_countStreamIn (n : Node) : (s.countStreamIn n).acyclic = s.acyclic := rfl
@[simp] theorem State.engine_countStreamIn (n : Node) : (s.countStreamIn n).engine = s.engine := rfl
@[simp] theorem State.pins_countStreamIn (n : Node) : (s.countStreamIn n).pins = s.pins := rfl
@[simp] theorem State.freeIndex_countStreamIn (n : Node) : (s.countStreamIn n).freeIndex = s.freeIndex := rfl
@[simp] theorem State.pending_countStreamIn (n : Node) : (s.countStreamIn n).pending = s.pending := rfl

/-! ### State.countStreamOut -/

@[simp] theorem State.ports_countStreamOut (n : Node) : (s.countStreamOut n).ports = s.ports := rfl
@[simp] theorem State.attn_countStreamOut (n : Node) : (s.countStreamOut n).attn = s.attn := rfl
@[simp] theorem State.arbiter_countStreamOut (n : Node) : (s.countStreamOut n).arbiter = s.arbiter := rfl
@[simp] theorem State.table_countStreamOut (n : Node) : (s.countStreamOut n).table = s.table := rfl
@[simp] theorem State.store_countStreamOut (n : Node) : (s.countStreamOut n).store = s.store := rfl
@[simp] theorem State.trunk_countStreamOut (n : Node) : (s.countStreamOut n).trunk = s.trunk := rfl
@[simp] theorem State.sched_countStreamOut (n : Node) : (s.countStreamOut n).sched = s.sched := rfl
@[simp] theorem State.acyclic_countStreamOut (n : Node) : (s.countStreamOut n).acyclic = s.acyclic := rfl
@[simp] theorem State.engine_countStreamOut (n : Node) : (s.countStreamOut n).engine = s.engine := rfl
@[simp] theorem State.pins_countStreamOut (n : Node) : (s.countStreamOut n).pins = s.pins := rfl
@[simp] theorem State.freeIndex_countStreamOut (n : Node) : (s.countStreamOut n).freeIndex = s.freeIndex := rfl
@[simp] theorem State.pending_countStreamOut (n : Node) : (s.countStreamOut n).pending = s.pending := rfl

/-! ### State.charge -/

@[simp] theorem State.ports_charge (q : Params) : (s.charge q).ports = s.ports := s.ports_setLoad _
@[simp] theorem State.attn_charge (q : Params) : (s.charge q).attn = s.attn := s.attn_setLoad _
@[simp] theorem State.arbiter_charge (q : Params) : (s.charge q).arbiter = s.arbiter := s.arbiter_setLoad _
@[simp] theorem State.store_charge (q : Params) : (s.charge q).store = s.store := s.store_setLoad _
@[simp] theorem State.trunk_charge (q : Params) : (s.charge q).trunk = s.trunk := s.trunk_setLoad _
@[simp] theorem State.sched_charge (q : Params) : (s.charge q).sched = s.sched := s.sched_setLoad _
@[simp] theorem State.acyclic_charge (q : Params) : (s.charge q).acyclic = s.acyclic := s.acyclic_setLoad _
@[simp] theorem State.engine_charge (q : Params) : (s.charge q).engine = s.engine := s.engine_setLoad _
@[simp] theorem State.roster_charge (q : Params) : (s.charge q).roster = s.roster := s.roster_setLoad _
@[simp] theorem State.pins_charge (q : Params) : (s.charge q).pins = s.pins := s.pins_setLoad _
@[simp] theorem State.freeIndex_charge (q : Params) : (s.charge q).freeIndex = s.freeIndex := s.freeIndex_setLoad _
@[simp] theorem State.pending_charge (q : Params) : (s.charge q).pending = s.pending := s.pending_setLoad _

/-! ### State.discharge -/

@[simp] theorem State.ports_discharge (q : Params) : (s.discharge q).ports = s.ports := s.ports_setLoad _
@[simp] theorem State.attn_discharge (q : Params) : (s.discharge q).attn = s.attn := s.attn_setLoad _
@[simp] theorem State.arbiter_discharge (q : Params) : (s.discharge q).arbiter = s.arbiter := s.arbiter_setLoad _
@[simp] theorem State.store_discharge (q : Params) : (s.discharge q).store = s.store := s.store_setLoad _
@[simp] theorem State.trunk_discharge (q : Params) : (s.discharge q).trunk = s.trunk := s.trunk_setLoad _
@[simp] theorem State.sched_discharge (q : Params) : (s.discharge q).sched = s.sched := s.sched_setLoad _
@[simp] theorem State.acyclic_discharge (q : Params) : (s.discharge q).acyclic = s.acyclic := s.acyclic_setLoad _
@[simp] theorem State.engine_discharge (q : Params) : (s.discharge q).engine = s.engine := s.engine_setLoad _
@[simp] theorem State.roster_discharge (q : Params) : (s.discharge q).roster = s.roster := s.roster_setLoad _
@[simp] theorem State.pins_discharge (q : Params) : (s.discharge q).pins = s.pins := s.pins_setLoad _
@[simp] theorem State.freeIndex_discharge (q : Params) :
    (s.discharge q).freeIndex = s.freeIndex := s.freeIndex_setLoad _
@[simp] theorem State.pending_discharge (q : Params) : (s.discharge q).pending = s.pending := s.pending_setLoad _

/-! ### State.appendProbes -/

@[simp] theorem State.ports_appendProbes (new : List Node) : (s.appendProbes new).ports = s.ports := rfl
@[simp] theorem State.attn_appendProbes (new : List Node) : (s.appendProbes new).attn = s.attn := rfl
@[simp] theorem State.arbiter_appendProbes (new : List Node) : (s.appendProbes new).arbiter = s.arbiter := rfl
@[simp] theorem State.table_appendProbes (new : List Node) : (s.appendProbes new).table = s.table := rfl
@[simp] theorem State.store_appendProbes (new : List Node) : (s.appendProbes new).store = s.store := rfl
@[simp] theorem State.trunk_appendProbes (new : List Node) : (s.appendProbes new).trunk = s.trunk := rfl
@[simp] theorem State.sched_appendProbes (new : List Node) : (s.appendProbes new).sched = s.sched := rfl
@[simp] theorem State.engine_appendProbes (new : List Node) : (s.appendProbes new).engine = s.engine := rfl
@[simp] theorem State.roster_appendProbes (new : List Node) : (s.appendProbes new).roster = s.roster := rfl
@[simp] theorem State.pins_appendProbes (new : List Node) : (s.appendProbes new).pins = s.pins := rfl
@[simp] theorem State.freeIndex_appendProbes (new : List Node) : (s.appendProbes new).freeIndex = s.freeIndex := rfl
@[simp] theorem State.pending_appendProbes (new : List Node) : (s.appendProbes new).pending = s.pending := rfl

/-! ### State.selRises -/

@[simp] theorem State.attn_selRises (p : Port) : (s.selRises p).attn = s.attn := rfl
@[simp] theorem State.arbiter_selRises (p : Port) : (s.selRises p).arbiter = s.arbiter := rfl
@[simp] theorem State.table_selRises (p : Port) : (s.selRises p).table = s.table := rfl
@[simp] theorem State.store_selRises (p : Port) : (s.selRises p).store = s.store := rfl
@[simp] theorem State.trunk_selRises (p : Port) : (s.selRises p).trunk = s.trunk := rfl
@[simp] theorem State.sched_selRises (p : Port) : (s.selRises p).sched = s.sched := rfl
@[simp] theorem State.acyclic_selRises (p : Port) : (s.selRises p).acyclic = s.acyclic := rfl
@[simp] theorem State.engine_selRises (p : Port) : (s.selRises p).engine = s.engine := rfl
@[simp] theorem State.roster_selRises (p : Port) : (s.selRises p).roster = s.roster := rfl
@[simp] theorem State.pins_selRises (p : Port) : (s.selRises p).pins = s.pins := rfl
@[simp] theorem State.freeIndex_selRises (p : Port) : (s.selRises p).freeIndex = s.freeIndex := rfl
@[simp] theorem State.pending_selRises (p : Port) : (s.selRises p).pending = s.pending := rfl

/-! ### State.frameError -/

@[simp] theorem State.attn_frameError (p : Port) : (s.frameError p).attn = s.attn := rfl
@[simp] theorem State.arbiter_frameError (p : Port) : (s.frameError p).arbiter = s.arbiter := rfl
@[simp] theorem State.table_frameError (p : Port) : (s.frameError p).table = s.table := rfl
@[simp] theorem State.store_frameError (p : Port) : (s.frameError p).store = s.store := rfl
@[simp] theorem State.trunk_frameError (p : Port) : (s.frameError p).trunk = s.trunk := rfl
@[simp] theorem State.sched_frameError (p : Port) : (s.frameError p).sched = s.sched := rfl
@[simp] theorem State.acyclic_frameError (p : Port) : (s.frameError p).acyclic = s.acyclic := rfl
@[simp] theorem State.engine_frameError (p : Port) : (s.frameError p).engine = s.engine := rfl
@[simp] theorem State.roster_frameError (p : Port) : (s.frameError p).roster = s.roster := rfl
@[simp] theorem State.pins_frameError (p : Port) : (s.frameError p).pins = s.pins := rfl
@[simp] theorem State.freeIndex_frameError (p : Port) : (s.frameError p).freeIndex = s.freeIndex := rfl
@[simp] theorem State.pending_frameError (p : Port) : (s.frameError p).pending = s.pending := rfl

end Sys2Proof.Machine
end

