-- ==== Sys2Proof/Laws/Frames.lean ====
section
/-! SUPPORT. The frame of each shared operation: which fields of State it never changes. A proof about a field cites these
lemmas for the operations that leave it, and unfolds the few that touch it. -/

namespace Sys2Proof.Machine

/-- A fold leaves what each of its steps leaves. -/
theorem foldl_keeps {α β : Type} (f : State → α → State) (g : State → β) (h : ∀ s a, g (f s a) = g s) (l : List α)
    (s : State) : g (l.foldl f s) = g s := by
  induction l generalizing s with
  | nil => rfl
  | cons a rest ih => rw [List.foldl_cons, ih, h]

variable (s : State)

@[simp] theorem State.frame_updRecord (h : Handle) (f : StreamRecord → StreamRecord) :
    (s.updRecord h f).ports = s.ports ∧ (s.updRecord h f).attn = s.attn ∧ (s.updRecord h f).arbiter = s.arbiter ∧
    (s.updRecord h f).store = s.store ∧ (s.updRecord h f).trunk = s.trunk ∧ (s.updRecord h f).sched = s.sched ∧
    (s.updRecord h f).acyclic = s.acyclic ∧ (s.updRecord h f).engine = s.engine ∧
    (s.updRecord h f).roster = s.roster ∧ (s.updRecord h f).pins = s.pins ∧
    (s.updRecord h f).freeIndex = s.freeIndex ∧ (s.updRecord h f).pending = s.pending := by
  unfold State.updRecord
  (repeat' (first | split | dsimp only)) <;> simp

@[simp] theorem State.frame_freeRequest (id : ReqId) :
    (s.freeRequest id).ports = s.ports ∧ (s.freeRequest id).attn = s.attn ∧ (s.freeRequest id).arbiter = s.arbiter ∧
    (s.freeRequest id).table = s.table ∧ (s.freeRequest id).store = s.store ∧ (s.freeRequest id).trunk = s.trunk ∧
    (s.freeRequest id).sched = s.sched ∧ (s.freeRequest id).engine = s.engine ∧
    (s.freeRequest id).roster = s.roster ∧ (s.freeRequest id).pins = s.pins ∧
    (s.freeRequest id).freeIndex = s.freeIndex ∧ (s.freeRequest id).pending = s.pending := by
  simp [State.freeRequest]

@[simp] theorem State.frame_failRequest (id : ReqId) (q : Request) (why : FailReason) :
    (s.failRequest id q why).ports = s.ports ∧ (s.failRequest id q why).arbiter = s.arbiter ∧
    (s.failRequest id q why).table = s.table ∧ (s.failRequest id q why).store = s.store ∧
    (s.failRequest id q why).trunk = s.trunk ∧ (s.failRequest id q why).sched = s.sched ∧
    (s.failRequest id q why).engine = s.engine ∧ (s.failRequest id q why).roster = s.roster ∧
    (s.failRequest id q why).pins = s.pins ∧ (s.failRequest id q why).freeIndex = s.freeIndex ∧
    (s.failRequest id q why).pending = s.pending := by
  simp [State.failRequest]

@[simp] theorem State.frame_answerParked (w : ParkKind → Bool) (b : ParkKind → List Byte) :
    (s.answerParked w b).attn = s.attn ∧ (s.answerParked w b).table = s.table ∧
    (s.answerParked w b).store = s.store ∧ (s.answerParked w b).trunk = s.trunk ∧
    (s.answerParked w b).sched = s.sched ∧ (s.answerParked w b).acyclic = s.acyclic ∧
    (s.answerParked w b).engine = s.engine ∧ (s.answerParked w b).roster = s.roster ∧
    (s.answerParked w b).pins = s.pins ∧ (s.answerParked w b).freeIndex = s.freeIndex ∧
    (s.answerParked w b).pending = s.pending := by
  unfold State.answerParked
  (repeat' (first | split | dsimp only)) <;> simp

@[simp] theorem State.frame_deliver (c : Command) (a : Answer) :
    (s.deliver c a).attn = s.attn ∧ (s.deliver c a).table = s.table ∧ (s.deliver c a).store = s.store ∧
    (s.deliver c a).trunk = s.trunk ∧ (s.deliver c a).sched = s.sched ∧ (s.deliver c a).acyclic = s.acyclic ∧
    (s.deliver c a).engine = s.engine ∧ (s.deliver c a).roster = s.roster ∧ (s.deliver c a).pins = s.pins ∧
    (s.deliver c a).freeIndex = s.freeIndex ∧ (s.deliver c a).pending = s.pending := by
  unfold State.deliver
  (repeat' (first | split | dsimp only)) <;> simp

@[simp] theorem State.frame_freeRecord (h : Handle) (r : StreamRecord) :
    (s.freeRecord h r).ports = s.ports ∧ (s.freeRecord h r).attn = s.attn ∧ (s.freeRecord h r).arbiter = s.arbiter ∧
    (s.freeRecord h r).trunk = s.trunk ∧ (s.freeRecord h r).acyclic = s.acyclic ∧
    (s.freeRecord h r).engine = s.engine ∧ (s.freeRecord h r).pins = s.pins ∧
    (s.freeRecord h r).freeIndex = s.freeIndex ∧ (s.freeRecord h r).pending = s.pending := by
  simp [State.freeRecord]

@[simp] theorem State.frame_dropAmendment (h : Handle) (r : StreamRecord) :
    (s.dropAmendment h r).ports = s.ports ∧ (s.dropAmendment h r).attn = s.attn ∧
    (s.dropAmendment h r).arbiter = s.arbiter ∧ (s.dropAmendment h r).trunk = s.trunk ∧
    (s.dropAmendment h r).sched = s.sched ∧ (s.dropAmendment h r).acyclic = s.acyclic ∧
    (s.dropAmendment h r).engine = s.engine ∧ (s.dropAmendment h r).roster = s.roster ∧
    (s.dropAmendment h r).pins = s.pins ∧ (s.dropAmendment h r).freeIndex = s.freeIndex ∧
    (s.dropAmendment h r).pending = s.pending := by
  unfold State.dropAmendment
  (repeat' (first | split | dsimp only)) <;> simp

@[simp] theorem State.frame_retire (h : Handle) (r : StreamRecord) :
    (s.retire h r).ports = s.ports ∧ (s.retire h r).attn = s.attn ∧ (s.retire h r).arbiter = s.arbiter ∧
    (s.retire h r).trunk = s.trunk ∧ (s.retire h r).acyclic = s.acyclic ∧ (s.retire h r).engine = s.engine ∧
    (s.retire h r).pins = s.pins ∧ (s.retire h r).freeIndex = s.freeIndex ∧ (s.retire h r).pending = s.pending := by
  unfold State.retire
  (repeat' (first | split | dsimp only)) <;> simp

@[simp] theorem State.frame_cancel (id : ReqId) (q : Request) :
    (s.cancel id q).ports = s.ports ∧ (s.cancel id q).attn = s.attn ∧ (s.cancel id q).arbiter = s.arbiter ∧
    (s.cancel id q).table = s.table ∧ (s.cancel id q).store = s.store ∧ (s.cancel id q).trunk = s.trunk ∧
    (s.cancel id q).sched = s.sched ∧ (s.cancel id q).engine = s.engine ∧ (s.cancel id q).roster = s.roster ∧
    (s.cancel id q).pins = s.pins ∧ (s.cancel id q).freeIndex = s.freeIndex ∧ (s.cancel id q).pending = s.pending := by
  unfold State.cancel
  (repeat' (first | split | dsimp only)) <;> simp

@[simp] theorem State.frame_suspendRecord (n : Node) (h : Handle) :
    (State.suspendRecord n s h).ports = s.ports ∧ (State.suspendRecord n s h).arbiter = s.arbiter ∧
    (State.suspendRecord n s h).store = s.store ∧ (State.suspendRecord n s h).trunk = s.trunk ∧
    (State.suspendRecord n s h).acyclic = s.acyclic ∧ (State.suspendRecord n s h).engine = s.engine ∧
    (State.suspendRecord n s h).roster = s.roster ∧ (State.suspendRecord n s h).pins = s.pins ∧
    (State.suspendRecord n s h).freeIndex = s.freeIndex ∧ (State.suspendRecord n s h).pending = s.pending := by
  unfold State.suspendRecord
  (repeat' (first | split | dsimp only)) <;> simp

@[simp] theorem State.frame_resumeRecord (n : Node) (h : Handle) :
    (State.resumeRecord n s h).ports = s.ports ∧ (State.resumeRecord n s h).arbiter = s.arbiter ∧
    (State.resumeRecord n s h).store = s.store ∧ (State.resumeRecord n s h).trunk = s.trunk ∧
    (State.resumeRecord n s h).sched = s.sched ∧ (State.resumeRecord n s h).acyclic = s.acyclic ∧
    (State.resumeRecord n s h).engine = s.engine ∧ (State.resumeRecord n s h).roster = s.roster ∧
    (State.resumeRecord n s h).pins = s.pins ∧ (State.resumeRecord n s h).freeIndex = s.freeIndex ∧
    (State.resumeRecord n s h).pending = s.pending := by
  unfold State.resumeRecord
  (repeat' (first | split | dsimp only)) <;> simp

@[simp] theorem State.frame_loseRequest (n : Node) (id : ReqId) :
    (State.loseRequest n s id).ports = s.ports ∧ (State.loseRequest n s id).arbiter = s.arbiter ∧
    (State.loseRequest n s id).table = s.table ∧ (State.loseRequest n s id).store = s.store ∧
    (State.loseRequest n s id).trunk = s.trunk ∧ (State.loseRequest n s id).sched = s.sched ∧
    (State.loseRequest n s id).engine = s.engine ∧ (State.loseRequest n s id).roster = s.roster ∧
    (State.loseRequest n s id).pins = s.pins ∧ (State.loseRequest n s id).freeIndex = s.freeIndex ∧
    (State.loseRequest n s id).pending = s.pending := by
  unfold State.loseRequest
  (repeat' (first | split | dsimp only)) <;> simp

@[simp] theorem State.frame_nodeLost (n : Node) :
    (s.nodeLost n).ports = s.ports ∧ (s.nodeLost n).arbiter = s.arbiter ∧ (s.nodeLost n).store = s.store ∧
    (s.nodeLost n).trunk = s.trunk ∧ (s.nodeLost n).engine = s.engine ∧ (s.nodeLost n).roster = s.roster ∧
    (s.nodeLost n).pins = s.pins ∧ (s.nodeLost n).freeIndex = s.freeIndex ∧ (s.nodeLost n).pending = s.pending := by
  unfold State.nodeLost
  refine ⟨(foldl_keeps _ State.ports (fun s id => by simp) _ _).trans (foldl_keeps _ State.ports (fun s h => by simp) _ _),
    (foldl_keeps _ State.arbiter (fun s id => by simp) _ _).trans (foldl_keeps _ State.arbiter (fun s h => by simp) _ _),
    (foldl_keeps _ State.store (fun s id => by simp) _ _).trans (foldl_keeps _ State.store (fun s h => by simp) _ _),
    (foldl_keeps _ State.trunk (fun s id => by simp) _ _).trans (foldl_keeps _ State.trunk (fun s h => by simp) _ _),
    (foldl_keeps _ State.engine (fun s id => by simp) _ _).trans (foldl_keeps _ State.engine (fun s h => by simp) _ _),
    (foldl_keeps _ State.roster (fun s id => by simp) _ _).trans (foldl_keeps _ State.roster (fun s h => by simp) _ _),
    (foldl_keeps _ State.pins (fun s id => by simp) _ _).trans (foldl_keeps _ State.pins (fun s h => by simp) _ _),
    (foldl_keeps _ State.freeIndex (fun s id => by simp) _ _).trans (foldl_keeps _ State.freeIndex (fun s h => by simp) _ _),
    (foldl_keeps _ State.pending (fun s id => by simp) _ _).trans (foldl_keeps _ State.pending (fun s h => by simp) _ _)⟩

@[simp] theorem State.frame_nodeRecovered (n : Node) :
    (s.nodeRecovered n).ports = s.ports ∧ (s.nodeRecovered n).arbiter = s.arbiter ∧
    (s.nodeRecovered n).store = s.store ∧ (s.nodeRecovered n).trunk = s.trunk ∧ (s.nodeRecovered n).sched = s.sched ∧
    (s.nodeRecovered n).acyclic = s.acyclic ∧ (s.nodeRecovered n).engine = s.engine ∧
    (s.nodeRecovered n).roster = s.roster ∧ (s.nodeRecovered n).pins = s.pins ∧
    (s.nodeRecovered n).freeIndex = s.freeIndex ∧ (s.nodeRecovered n).pending = s.pending :=
  ⟨foldl_keeps _ State.ports (fun s h => by simp) _ _,
    foldl_keeps _ State.arbiter (fun s h => by simp) _ _,
    foldl_keeps _ State.store (fun s h => by simp) _ _,
    foldl_keeps _ State.trunk (fun s h => by simp) _ _,
    foldl_keeps _ State.sched (fun s h => by simp) _ _,
    foldl_keeps _ State.acyclic (fun s h => by simp) _ _,
    foldl_keeps _ State.engine (fun s h => by simp) _ _,
    foldl_keeps _ State.roster (fun s h => by simp) _ _,
    foldl_keeps _ State.pins (fun s h => by simp) _ _,
    foldl_keeps _ State.freeIndex (fun s h => by simp) _ _,
    foldl_keeps _ State.pending (fun s h => by simp) _ _⟩

@[simp] theorem State.frame_reportAnswered (n : Node) (i : Option Identity) :
    (s.reportAnswered n i).ports = s.ports ∧ (s.reportAnswered n i).arbiter = s.arbiter ∧
    (s.reportAnswered n i).store = s.store ∧ (s.reportAnswered n i).trunk = s.trunk ∧
    (s.reportAnswered n i).sched = s.sched ∧ (s.reportAnswered n i).acyclic = s.acyclic ∧
    (s.reportAnswered n i).engine = s.engine ∧ (s.reportAnswered n i).pins = s.pins ∧
    (s.reportAnswered n i).freeIndex = s.freeIndex ∧ (s.reportAnswered n i).pending = s.pending := by
  unfold State.reportAnswered
  (repeat' (first | split | dsimp only)) <;> simp

@[simp] theorem State.frame_reportUnanswered (n : Node) :
    (s.reportUnanswered n).ports = s.ports ∧ (s.reportUnanswered n).arbiter = s.arbiter ∧
    (s.reportUnanswered n).store = s.store ∧ (s.reportUnanswered n).trunk = s.trunk ∧
    (s.reportUnanswered n).engine = s.engine ∧ (s.reportUnanswered n).pins = s.pins ∧
    (s.reportUnanswered n).freeIndex = s.freeIndex ∧ (s.reportUnanswered n).pending = s.pending := by
  unfold State.reportUnanswered
  (repeat' (first | split | dsimp only)) <;> simp

@[simp] theorem State.frame_reportUnansweredProbe (n : Node) :
    (s.reportUnansweredProbe n).ports = s.ports ∧ (s.reportUnansweredProbe n).arbiter = s.arbiter ∧
    (s.reportUnansweredProbe n).table = s.table ∧ (s.reportUnansweredProbe n).store = s.store ∧
    (s.reportUnansweredProbe n).trunk = s.trunk ∧ (s.reportUnansweredProbe n).sched = s.sched ∧
    (s.reportUnansweredProbe n).acyclic = s.acyclic ∧ (s.reportUnansweredProbe n).engine = s.engine ∧
    (s.reportUnansweredProbe n).pins = s.pins ∧ (s.reportUnansweredProbe n).freeIndex = s.freeIndex ∧
    (s.reportUnansweredProbe n).pending = s.pending := by
  unfold State.reportUnansweredProbe
  (repeat' (first | split | dsimp only)) <;> simp

@[simp] theorem State.frame_report (n : Node) (o : ExchangeOutcome) :
    (s.report n o).ports = s.ports ∧ (s.report n o).arbiter = s.arbiter ∧ (s.report n o).store = s.store ∧
    (s.report n o).trunk = s.trunk ∧ (s.report n o).engine = s.engine ∧ (s.report n o).pins = s.pins ∧
    (s.report n o).freeIndex = s.freeIndex ∧ (s.report n o).pending = s.pending := by
  unfold State.report
  (repeat' (first | split | dsimp only)) <;> simp

@[simp] theorem State.frame_countMiss (h : Handle) :
    (s.countMiss h).ports = s.ports ∧ (s.countMiss h).arbiter = s.arbiter ∧ (s.countMiss h).store = s.store ∧
    (s.countMiss h).trunk = s.trunk ∧ (s.countMiss h).sched = s.sched ∧ (s.countMiss h).acyclic = s.acyclic ∧
    (s.countMiss h).engine = s.engine ∧ (s.countMiss h).roster = s.roster ∧ (s.countMiss h).pins = s.pins ∧
    (s.countMiss h).freeIndex = s.freeIndex ∧ (s.countMiss h).pending = s.pending := by
  unfold State.countMiss
  (repeat' (first | split | dsimp only)) <;> simp

@[simp] theorem State.frame_settle :
    s.settle.ports = s.ports ∧ s.settle.arbiter = s.arbiter ∧ s.settle.store = s.store ∧ s.settle.trunk = s.trunk ∧
    s.settle.sched = s.sched ∧ s.settle.acyclic = s.acyclic ∧ s.settle.engine = s.engine ∧
    s.settle.roster = s.roster ∧ s.settle.pins = s.pins ∧ s.settle.freeIndex = s.freeIndex ∧
    s.settle.pending = s.pending :=
  ⟨foldl_keeps _ State.ports (fun s e => by split <;> simp) _ _,
    foldl_keeps _ State.arbiter (fun s e => by split <;> simp) _ _,
    foldl_keeps _ State.store (fun s e => by split <;> simp) _ _,
    foldl_keeps _ State.trunk (fun s e => by split <;> simp) _ _,
    foldl_keeps _ State.sched (fun s e => by split <;> simp) _ _,
    foldl_keeps _ State.acyclic (fun s e => by split <;> simp) _ _,
    foldl_keeps _ State.engine (fun s e => by split <;> simp) _ _,
    foldl_keeps _ State.roster (fun s e => by split <;> simp) _ _,
    foldl_keeps _ State.pins (fun s e => by split <;> simp) _ _,
    foldl_keeps _ State.freeIndex (fun s e => by split <;> simp) _ _,
    foldl_keeps _ State.pending (fun s e => by split <;> simp) _ _⟩

@[simp] theorem State.frame_beginAcyclic :
    s.beginAcyclic.ports = s.ports ∧ s.beginAcyclic.attn = s.attn ∧ s.beginAcyclic.arbiter = s.arbiter ∧
    s.beginAcyclic.table = s.table ∧ s.beginAcyclic.store = s.store ∧ s.beginAcyclic.sched = s.sched ∧
    s.beginAcyclic.engine = s.engine ∧ s.beginAcyclic.roster = s.roster ∧ s.beginAcyclic.pins = s.pins ∧
    s.beginAcyclic.freeIndex = s.freeIndex ∧ s.beginAcyclic.pending = s.pending := by
  simp [State.beginAcyclic]

@[simp] theorem State.frame_endCyclic :
    s.endCyclic.ports = s.ports ∧ s.endCyclic.attn = s.attn ∧ s.endCyclic.arbiter = s.arbiter ∧
    s.endCyclic.table = s.table ∧ s.endCyclic.store = s.store ∧ s.endCyclic.sched = s.sched ∧
    s.endCyclic.acyclic = s.acyclic ∧ s.endCyclic.engine = s.engine ∧ s.endCyclic.roster = s.roster ∧
    s.endCyclic.pins = s.pins ∧ s.endCyclic.freeIndex = s.freeIndex ∧ s.endCyclic.pending = s.pending := by
  unfold State.endCyclic
  (repeat' (first | split | dsimp only)) <;> simp

@[simp] theorem State.frame_endRetry :
    s.endRetry.ports = s.ports ∧ s.endRetry.arbiter = s.arbiter ∧ s.endRetry.store = s.store ∧
    s.endRetry.sched = s.sched ∧ s.endRetry.engine = s.engine ∧ s.endRetry.roster = s.roster ∧
    s.endRetry.pins = s.pins ∧ s.endRetry.freeIndex = s.freeIndex ∧ s.endRetry.pending = s.pending := by
  unfold State.endRetry
  (repeat' (first | split | dsimp only)) <;> simp

@[simp] theorem State.frame_endProbes :
    s.endProbes.ports = s.ports ∧ s.endProbes.attn = s.attn ∧ s.endProbes.arbiter = s.arbiter ∧
    s.endProbes.table = s.table ∧ s.endProbes.store = s.store ∧ s.endProbes.sched = s.sched ∧
    s.endProbes.acyclic = s.acyclic ∧ s.endProbes.engine = s.engine ∧ s.endProbes.roster = s.roster ∧
    s.endProbes.pins = s.pins ∧ s.endProbes.freeIndex = s.freeIndex ∧ s.endProbes.pending = s.pending := by
  unfold State.endProbes
  (repeat' (first | split | dsimp only)) <;> simp

@[simp] theorem State.frame_endPieces :
    s.endPieces.ports = s.ports ∧ s.endPieces.attn = s.attn ∧ s.endPieces.arbiter = s.arbiter ∧
    s.endPieces.table = s.table ∧ s.endPieces.store = s.store ∧ s.endPieces.sched = s.sched ∧
    s.endPieces.acyclic = s.acyclic ∧ s.endPieces.engine = s.engine ∧ s.endPieces.roster = s.roster ∧
    s.endPieces.pins = s.pins ∧ s.endPieces.freeIndex = s.freeIndex ∧ s.endPieces.pending = s.pending := by
  unfold State.endPieces
  (repeat' (first | split | dsimp only)) <;> simp

@[simp] theorem State.frame_advance :
    s.advance.ports = s.ports ∧ s.advance.arbiter = s.arbiter ∧ s.advance.store = s.store ∧
    s.advance.sched = s.sched ∧ s.advance.engine = s.engine ∧ s.advance.roster = s.roster ∧ s.advance.pins = s.pins ∧
    s.advance.freeIndex = s.freeIndex ∧ s.advance.pending = s.pending := by
  unfold State.advance
  (repeat' (first | split | dsimp only)) <;> simp

@[simp] theorem State.frame_applyStaged :
    s.applyStaged.ports = s.ports ∧ s.applyStaged.arbiter = s.arbiter ∧ s.applyStaged.table = s.table ∧
    s.applyStaged.store = s.store ∧ s.applyStaged.sched = s.sched ∧ s.applyStaged.acyclic = s.acyclic ∧
    s.applyStaged.engine = s.engine ∧ s.applyStaged.roster = s.roster ∧ s.applyStaged.pins = s.pins ∧
    s.applyStaged.freeIndex = s.freeIndex ∧ s.applyStaged.pending = s.pending := by
  unfold State.applyStaged
  (repeat' (first | split | dsimp only)) <;> simp

@[simp] theorem State.frame_endClosing (h : Handle) (r : StreamRecord) :
    (s.endClosing h r).attn = s.attn ∧ (s.endClosing h r).trunk = s.trunk ∧ (s.endClosing h r).acyclic = s.acyclic ∧
    (s.endClosing h r).engine = s.engine ∧ (s.endClosing h r).pins = s.pins ∧
    (s.endClosing h r).freeIndex = s.freeIndex ∧ (s.endClosing h r).pending = s.pending := by
  simp [State.endClosing]

@[simp] theorem State.frame_endCancelling (id : ReqId) (q : Request) :
    (s.endCancelling id q).attn = s.attn ∧ (s.endCancelling id q).table = s.table ∧
    (s.endCancelling id q).store = s.store ∧ (s.endCancelling id q).trunk = s.trunk ∧
    (s.endCancelling id q).sched = s.sched ∧ (s.endCancelling id q).engine = s.engine ∧
    (s.endCancelling id q).roster = s.roster ∧ (s.endCancelling id q).pins = s.pins ∧
    (s.endCancelling id q).freeIndex = s.freeIndex ∧ (s.endCancelling id q).pending = s.pending := by
  simp [State.endCancelling]

@[simp] theorem State.frame_abandon :
    s.abandon.attn = s.attn ∧ s.abandon.trunk = s.trunk ∧ s.abandon.pins = s.pins ∧
    s.abandon.freeIndex = s.freeIndex ∧ s.abandon.pending = s.pending := by
  unfold State.abandon
  (repeat' (first | split | dsimp only)) <;> simp

@[simp] theorem State.frame_enterFaulted (c : FaultCause) :
    (s.enterFaulted c).freeIndex = s.freeIndex ∧ (s.enterFaulted c).pending = s.pending := by
  simp [State.enterFaulted]

@[simp] theorem State.frame_enterHalted :
    s.enterHalted.ports = s.ports ∧ s.enterHalted.arbiter = s.arbiter ∧ s.enterHalted.table = s.table ∧
    s.enterHalted.store = s.store ∧ s.enterHalted.sched = s.sched ∧ s.enterHalted.acyclic = s.acyclic ∧
    s.enterHalted.engine = s.engine ∧ s.enterHalted.roster = s.roster ∧ s.enterHalted.pins = s.pins ∧
    s.enterHalted.freeIndex = s.freeIndex ∧ s.enterHalted.pending = s.pending := by
  simp [State.enterHalted]

@[simp] theorem State.frame_beginRestartMark :
    s.beginRestartMark.ports = s.ports ∧ s.beginRestartMark.arbiter = s.arbiter ∧
    s.beginRestartMark.table = s.table ∧ s.beginRestartMark.store = s.store ∧ s.beginRestartMark.sched = s.sched ∧
    s.beginRestartMark.acyclic = s.acyclic ∧ s.beginRestartMark.engine = s.engine ∧
    s.beginRestartMark.roster = s.roster ∧ s.beginRestartMark.freeIndex = s.freeIndex ∧
    s.beginRestartMark.pending = s.pending := by
  simp [State.beginRestartMark]

@[simp] theorem State.frame_restartMarkFallsDue :
    s.restartMarkFallsDue.freeIndex = s.freeIndex ∧ s.restartMarkFallsDue.pending = s.pending := by
  unfold State.restartMarkFallsDue
  (repeat' (first | split | dsimp only)) <;> simp

@[simp] theorem State.frame_trunkRestart :
    s.trunkRestart.ports = s.ports ∧ s.trunkRestart.attn = s.attn ∧ s.trunkRestart.arbiter = s.arbiter ∧
    s.trunkRestart.store = s.store ∧ s.trunkRestart.acyclic = s.acyclic ∧ s.trunkRestart.engine = s.engine ∧
    s.trunkRestart.pins = s.pins ∧ s.trunkRestart.freeIndex = s.freeIndex ∧ s.trunkRestart.pending = s.pending := by
  simp [State.trunkRestart]

@[simp] theorem State.frame_applyAmendment (h : Handle) (r : StreamRecord) (am : Amendment) :
    (s.applyAmendment h r am).ports = s.ports ∧ (s.applyAmendment h r am).arbiter = s.arbiter ∧
    (s.applyAmendment h r am).trunk = s.trunk ∧ (s.applyAmendment h r am).sched = s.sched ∧
    (s.applyAmendment h r am).acyclic = s.acyclic ∧ (s.applyAmendment h r am).engine = s.engine ∧
    (s.applyAmendment h r am).roster = s.roster ∧ (s.applyAmendment h r am).pins = s.pins ∧
    (s.applyAmendment h r am).freeIndex = s.freeIndex ∧ (s.applyAmendment h r am).pending = s.pending := by
  unfold State.applyAmendment
  (repeat' (first | split | dsimp only)) <;> simp

@[simp] theorem State.frame_expireLease (h : Handle) :
    (s.expireLease h).ports = s.ports ∧ (s.expireLease h).arbiter = s.arbiter ∧ (s.expireLease h).trunk = s.trunk ∧
    (s.expireLease h).acyclic = s.acyclic ∧ (s.expireLease h).engine = s.engine ∧ (s.expireLease h).pins = s.pins ∧
    (s.expireLease h).freeIndex = s.freeIndex ∧ (s.expireLease h).pending = s.pending := by
  unfold State.expireLease
  (repeat' (first | split | dsimp only)) <;> simp

@[simp] theorem State.frame_markRecord (h : Handle) :
    (s.markRecord h).ports = s.ports ∧ (s.markRecord h).arbiter = s.arbiter ∧ (s.markRecord h).trunk = s.trunk ∧
    (s.markRecord h).acyclic = s.acyclic ∧ (s.markRecord h).engine = s.engine ∧ (s.markRecord h).pins = s.pins ∧
    (s.markRecord h).freeIndex = s.freeIndex ∧ (s.markRecord h).pending = s.pending := by
  unfold State.markRecord
  (repeat' (first | split | dsimp only)) <;> simp

@[simp] theorem State.frame_formLists :
    s.formLists.ports = s.ports ∧ s.formLists.attn = s.attn ∧ s.formLists.arbiter = s.arbiter ∧
    s.formLists.table = s.table ∧ s.formLists.store = s.store ∧ s.formLists.trunk = s.trunk ∧
    s.formLists.acyclic = s.acyclic ∧ s.formLists.engine = s.engine ∧ s.formLists.roster = s.roster ∧
    s.formLists.pins = s.pins ∧ s.formLists.freeIndex = s.freeIndex ∧ s.formLists.pending = s.pending := by
  simp [State.formLists]

@[simp] theorem State.frame_intervalProbes :
    s.intervalProbes.ports = s.ports ∧ s.intervalProbes.attn = s.attn ∧ s.intervalProbes.arbiter = s.arbiter ∧
    s.intervalProbes.table = s.table ∧ s.intervalProbes.store = s.store ∧ s.intervalProbes.trunk = s.trunk ∧
    s.intervalProbes.sched = s.sched ∧ s.intervalProbes.engine = s.engine ∧ s.intervalProbes.roster = s.roster ∧
    s.intervalProbes.pins = s.pins ∧ s.intervalProbes.freeIndex = s.freeIndex ∧
    s.intervalProbes.pending = s.pending := by
  unfold State.intervalProbes
  (repeat' (first | split | dsimp only)) <;> simp

@[simp] theorem State.frame_openCycle :
    s.openCycle.ports = s.ports ∧ s.openCycle.arbiter = s.arbiter ∧ s.openCycle.table = s.table ∧
    s.openCycle.store = s.store ∧ s.openCycle.sched = s.sched ∧ s.openCycle.acyclic = s.acyclic ∧
    s.openCycle.engine = s.engine ∧ s.openCycle.roster = s.roster ∧ s.openCycle.freeIndex = s.freeIndex ∧
    s.openCycle.pending = s.pending := by
  unfold State.openCycle
  (repeat' (first | split | dsimp only)) <;> simp

@[simp] theorem State.frame_beginCycleMark :
    s.beginCycleMark.ports = s.ports ∧ s.beginCycleMark.arbiter = s.arbiter ∧ s.beginCycleMark.engine = s.engine ∧
    s.beginCycleMark.freeIndex = s.freeIndex ∧ s.beginCycleMark.pending = s.pending := by
  unfold State.beginCycleMark
  simp only [State.frame_intervalProbes, State.frame_formLists]
  refine ⟨(foldl_keeps _ State.ports (fun s h => by simp) _ _).trans (by simp),
    (foldl_keeps _ State.arbiter (fun s h => by simp) _ _).trans (by simp),
    (foldl_keeps _ State.engine (fun s h => by simp) _ _).trans (by simp),
    (foldl_keeps _ State.freeIndex (fun s h => by simp) _ _).trans (by simp),
    (foldl_keeps _ State.pending (fun s h => by simp) _ _).trans (by simp)⟩

@[simp] theorem State.frame_startExchange (q : Poll) (n : Node) (f : List Byte) (k : Nat) :
    (s.startExchange q n f k).ports = s.ports ∧ (s.startExchange q n f k).attn = s.attn ∧
    (s.startExchange q n f k).arbiter = s.arbiter ∧ (s.startExchange q n f k).table = s.table ∧
    (s.startExchange q n f k).store = s.store ∧ (s.startExchange q n f k).trunk = s.trunk ∧
    (s.startExchange q n f k).sched = s.sched ∧ (s.startExchange q n f k).acyclic = s.acyclic ∧
    (s.startExchange q n f k).roster = s.roster ∧ (s.startExchange q n f k).freeIndex = s.freeIndex ∧
    (s.startExchange q n f k).pending = s.pending := by
  simp [State.startExchange]

@[simp] theorem State.frame_startStreamPoll (h : Handle) (r : StreamRecord) :
    (s.startStreamPoll h r).ports = s.ports ∧ (s.startStreamPoll h r).attn = s.attn ∧
    (s.startStreamPoll h r).arbiter = s.arbiter ∧ (s.startStreamPoll h r).store = s.store ∧
    (s.startStreamPoll h r).trunk = s.trunk ∧ (s.startStreamPoll h r).acyclic = s.acyclic ∧
    (s.startStreamPoll h r).roster = s.roster ∧ (s.startStreamPoll h r).freeIndex = s.freeIndex ∧
    (s.startStreamPoll h r).pending = s.pending := by
  unfold State.startStreamPoll
  (repeat' (first | split | dsimp only)) <;> simp

@[simp] theorem State.frame_passOver :
    s.passOver.ports = s.ports ∧ s.passOver.attn = s.attn ∧ s.passOver.arbiter = s.arbiter ∧
    s.passOver.table = s.table ∧ s.passOver.store = s.store ∧ s.passOver.trunk = s.trunk ∧
    s.passOver.acyclic = s.acyclic ∧ s.passOver.engine = s.engine ∧ s.passOver.roster = s.roster ∧
    s.passOver.pins = s.pins ∧ s.passOver.freeIndex = s.freeIndex ∧ s.passOver.pending = s.pending :=
  ⟨foldl_keeps _ State.ports (fun s e => by split <;> simp) _ _,
    foldl_keeps _ State.attn (fun s e => by split <;> simp) _ _,
    foldl_keeps _ State.arbiter (fun s e => by split <;> simp) _ _,
    foldl_keeps _ State.table (fun s e => by split <;> simp) _ _,
    foldl_keeps _ State.store (fun s e => by split <;> simp) _ _,
    foldl_keeps _ State.trunk (fun s e => by split <;> simp) _ _,
    foldl_keeps _ State.acyclic (fun s e => by split <;> simp) _ _,
    foldl_keeps _ State.engine (fun s e => by split <;> simp) _ _,
    foldl_keeps _ State.roster (fun s e => by split <;> simp) _ _,
    foldl_keeps _ State.pins (fun s e => by split <;> simp) _ _,
    foldl_keeps _ State.freeIndex (fun s e => by split <;> simp) _ _,
    foldl_keeps _ State.pending (fun s e => by split <;> simp) _ _⟩

@[simp] theorem State.frame_crowdOut :
    s.crowdOut.ports = s.ports ∧ s.crowdOut.attn = s.attn ∧ s.crowdOut.arbiter = s.arbiter ∧
    s.crowdOut.table = s.table ∧ s.crowdOut.store = s.store ∧ s.crowdOut.acyclic = s.acyclic ∧
    s.crowdOut.engine = s.engine ∧ s.crowdOut.roster = s.roster ∧ s.crowdOut.pins = s.pins ∧
    s.crowdOut.freeIndex = s.freeIndex ∧ s.crowdOut.pending = s.pending := by
  simp [State.crowdOut]

@[simp] theorem State.frame_dropRetries :
    s.dropRetries.ports = s.ports ∧ s.dropRetries.attn = s.attn ∧ s.dropRetries.arbiter = s.arbiter ∧
    s.dropRetries.table = s.table ∧ s.dropRetries.store = s.store ∧ s.dropRetries.trunk = s.trunk ∧
    s.dropRetries.acyclic = s.acyclic ∧ s.dropRetries.engine = s.engine ∧ s.dropRetries.roster = s.roster ∧
    s.dropRetries.pins = s.pins ∧ s.dropRetries.freeIndex = s.freeIndex ∧ s.dropRetries.pending = s.pending := by
  simp [State.dropRetries]

@[simp] theorem State.frame_startProbe (n : Node) :
    (s.startProbe n).ports = s.ports ∧ (s.startProbe n).attn = s.attn ∧ (s.startProbe n).arbiter = s.arbiter ∧
    (s.startProbe n).table = s.table ∧ (s.startProbe n).store = s.store ∧ (s.startProbe n).trunk = s.trunk ∧
    (s.startProbe n).sched = s.sched ∧ (s.startProbe n).roster = s.roster ∧
    (s.startProbe n).freeIndex = s.freeIndex ∧ (s.startProbe n).pending = s.pending := by
  simp [State.startProbe]

@[simp] theorem State.frame_startPiece (id : ReqId) (q : Request) :
    (s.startPiece id q).ports = s.ports ∧ (s.startPiece id q).attn = s.attn ∧
    (s.startPiece id q).arbiter = s.arbiter ∧ (s.startPiece id q).table = s.table ∧
    (s.startPiece id q).store = s.store ∧ (s.startPiece id q).trunk = s.trunk ∧ (s.startPiece id q).sched = s.sched ∧
    (s.startPiece id q).roster = s.roster ∧ (s.startPiece id q).freeIndex = s.freeIndex ∧
    (s.startPiece id q).pending = s.pending := by
  simp [State.startPiece]

@[simp] theorem State.frame_placePayload (q : Poll) (b : List Byte) :
    (s.placePayload q b).ports = s.ports ∧ (s.placePayload q b).attn = s.attn ∧
    (s.placePayload q b).arbiter = s.arbiter ∧ (s.placePayload q b).table = s.table ∧
    (s.placePayload q b).trunk = s.trunk ∧ (s.placePayload q b).sched = s.sched ∧
    (s.placePayload q b).acyclic = s.acyclic ∧ (s.placePayload q b).roster = s.roster ∧
    (s.placePayload q b).pins = s.pins ∧ (s.placePayload q b).freeIndex = s.freeIndex ∧
    (s.placePayload q b).pending = s.pending := by
  unfold State.placePayload
  (repeat' (first | split | dsimp only)) <;> simp

@[simp] theorem State.frame_placeArrived :
    s.placeArrived.ports = s.ports ∧ s.placeArrived.attn = s.attn ∧ s.placeArrived.arbiter = s.arbiter ∧
    s.placeArrived.table = s.table ∧ s.placeArrived.trunk = s.trunk ∧ s.placeArrived.sched = s.sched ∧
    s.placeArrived.acyclic = s.acyclic ∧ s.placeArrived.roster = s.roster ∧ s.placeArrived.pins = s.pins ∧
    s.placeArrived.pending = s.pending := by
  unfold State.placeArrived
  (repeat' (first | split | dsimp only)) <;> simp

@[simp] theorem State.frame_setDisposition (h : Handle) (d : Disposition) :
    (s.setDisposition h d).ports = s.ports ∧ (s.setDisposition h d).attn = s.attn ∧
    (s.setDisposition h d).arbiter = s.arbiter ∧ (s.setDisposition h d).table = s.table ∧
    (s.setDisposition h d).store = s.store ∧ (s.setDisposition h d).trunk = s.trunk ∧
    (s.setDisposition h d).acyclic = s.acyclic ∧ (s.setDisposition h d).engine = s.engine ∧
    (s.setDisposition h d).roster = s.roster ∧ (s.setDisposition h d).pins = s.pins ∧
    (s.setDisposition h d).freeIndex = s.freeIndex ∧ (s.setDisposition h d).pending = s.pending := by
  simp [State.setDisposition]

@[simp] theorem State.frame_retryOrGiveUp (h : Handle) (r : StreamRecord) :
    (s.retryOrGiveUp h r).ports = s.ports ∧ (s.retryOrGiveUp h r).attn = s.attn ∧
    (s.retryOrGiveUp h r).arbiter = s.arbiter ∧ (s.retryOrGiveUp h r).table = s.table ∧
    (s.retryOrGiveUp h r).store = s.store ∧ (s.retryOrGiveUp h r).trunk = s.trunk ∧
    (s.retryOrGiveUp h r).acyclic = s.acyclic ∧ (s.retryOrGiveUp h r).engine = s.engine ∧
    (s.retryOrGiveUp h r).roster = s.roster ∧ (s.retryOrGiveUp h r).pins = s.pins ∧
    (s.retryOrGiveUp h r).freeIndex = s.freeIndex ∧ (s.retryOrGiveUp h r).pending = s.pending := by
  unfold State.retryOrGiveUp
  (repeat' (first | split | dsimp only)) <;> simp

@[simp] theorem State.frame_serveRecord (h : Handle) (r : StreamRecord) (q : Poll) (o : ExchangeOutcome) :
    (s.serveRecord h r q o).ports = s.ports ∧ (s.serveRecord h r q o).arbiter = s.arbiter ∧
    (s.serveRecord h r q o).store = s.store ∧ (s.serveRecord h r q o).trunk = s.trunk ∧
    (s.serveRecord h r q o).acyclic = s.acyclic ∧ (s.serveRecord h r q o).engine = s.engine ∧
    (s.serveRecord h r q o).roster = s.roster ∧ (s.serveRecord h r q o).pins = s.pins ∧
    (s.serveRecord h r q o).freeIndex = s.freeIndex ∧ (s.serveRecord h r q o).pending = s.pending := by
  unfold State.serveRecord
  (repeat' (first | split | dsimp only)) <;> simp

@[simp] theorem State.frame_serviceResult (h : Handle) (q : Poll) (o : ExchangeOutcome) :
    (s.serviceResult h q o).trunk = s.trunk ∧ (s.serviceResult h q o).acyclic = s.acyclic ∧
    (s.serviceResult h q o).engine = s.engine ∧ (s.serviceResult h q o).pins = s.pins ∧
    (s.serviceResult h q o).freeIndex = s.freeIndex ∧ (s.serviceResult h q o).pending = s.pending := by
  unfold State.serviceResult
  (repeat' (first | split | dsimp only)) <;> simp

@[simp] theorem State.frame_pieceOk (id : ReqId) (q : Request) (n : Nat) :
    (s.pieceOk id q n).ports = s.ports ∧ (s.pieceOk id q n).arbiter = s.arbiter ∧
    (s.pieceOk id q n).table = s.table ∧ (s.pieceOk id q n).store = s.store ∧ (s.pieceOk id q n).trunk = s.trunk ∧
    (s.pieceOk id q n).sched = s.sched ∧ (s.pieceOk id q n).engine = s.engine ∧
    (s.pieceOk id q n).roster = s.roster ∧ (s.pieceOk id q n).pins = s.pins ∧
    (s.pieceOk id q n).freeIndex = s.freeIndex ∧ (s.pieceOk id q n).pending = s.pending := by
  unfold State.pieceOk
  (repeat' (first | split | dsimp only)) <;> simp

@[simp] theorem State.frame_pieceDeferred (id : ReqId) (q : Request) :
    (s.pieceDeferred id q).ports = s.ports ∧ (s.pieceDeferred id q).arbiter = s.arbiter ∧
    (s.pieceDeferred id q).table = s.table ∧ (s.pieceDeferred id q).store = s.store ∧
    (s.pieceDeferred id q).trunk = s.trunk ∧ (s.pieceDeferred id q).sched = s.sched ∧
    (s.pieceDeferred id q).engine = s.engine ∧ (s.pieceDeferred id q).roster = s.roster ∧
    (s.pieceDeferred id q).pins = s.pins ∧ (s.pieceDeferred id q).freeIndex = s.freeIndex ∧
    (s.pieceDeferred id q).pending = s.pending := by
  unfold State.pieceDeferred
  (repeat' (first | split | dsimp only)) <;> simp

@[simp] theorem State.frame_pieceUnanswered (id : ReqId) (q : Request) :
    (s.pieceUnanswered id q).ports = s.ports ∧ (s.pieceUnanswered id q).arbiter = s.arbiter ∧
    (s.pieceUnanswered id q).table = s.table ∧ (s.pieceUnanswered id q).store = s.store ∧
    (s.pieceUnanswered id q).trunk = s.trunk ∧ (s.pieceUnanswered id q).sched = s.sched ∧
    (s.pieceUnanswered id q).engine = s.engine ∧ (s.pieceUnanswered id q).roster = s.roster ∧
    (s.pieceUnanswered id q).pins = s.pins ∧ (s.pieceUnanswered id q).freeIndex = s.freeIndex ∧
    (s.pieceUnanswered id q).pending = s.pending := by
  unfold State.pieceUnanswered
  (repeat' (first | split | dsimp only)) <;> simp

@[simp] theorem State.frame_pieceResult (id : ReqId) (n : Nat) (o : ExchangeOutcome) :
    (s.pieceResult id n o).table = s.table ∧ (s.pieceResult id n o).store = s.store ∧
    (s.pieceResult id n o).trunk = s.trunk ∧ (s.pieceResult id n o).sched = s.sched ∧
    (s.pieceResult id n o).engine = s.engine ∧ (s.pieceResult id n o).roster = s.roster ∧
    (s.pieceResult id n o).pins = s.pins ∧ (s.pieceResult id n o).freeIndex = s.freeIndex ∧
    (s.pieceResult id n o).pending = s.pending := by
  unfold State.pieceResult
  (repeat' (first | split | dsimp only)) <;> simp

@[simp] theorem State.frame_endPiece (id : ReqId) (k : Nat) (n : Node) (o : ExchangeOutcome) :
    (s.endPiece id k n o).store = s.store ∧ (s.endPiece id k n o).trunk = s.trunk ∧
    (s.endPiece id k n o).engine = s.engine ∧ (s.endPiece id k n o).pins = s.pins ∧
    (s.endPiece id k n o).pending = s.pending := by
  unfold State.endPiece
  (repeat' (first | split | dsimp only)) <;> simp

@[simp] theorem State.frame_probeRemoved (n : Node) :
    (s.probeRemoved n).ports = s.ports ∧ (s.probeRemoved n).arbiter = s.arbiter ∧
    (s.probeRemoved n).table = s.table ∧ (s.probeRemoved n).store = s.store ∧ (s.probeRemoved n).trunk = s.trunk ∧
    (s.probeRemoved n).sched = s.sched ∧ (s.probeRemoved n).engine = s.engine ∧
    (s.probeRemoved n).roster = s.roster ∧ (s.probeRemoved n).pins = s.pins ∧
    (s.probeRemoved n).freeIndex = s.freeIndex ∧ (s.probeRemoved n).pending = s.pending := by
  unfold State.probeRemoved
  (repeat' (first | split | dsimp only)) <;> simp

@[simp] theorem State.frame_endProbe (n : Node) (o : ExchangeOutcome) :
    (s.endProbe n o).ports = s.ports ∧ (s.endProbe n o).arbiter = s.arbiter ∧ (s.endProbe n o).store = s.store ∧
    (s.endProbe n o).trunk = s.trunk ∧ (s.endProbe n o).sched = s.sched ∧ (s.endProbe n o).engine = s.engine ∧
    (s.endProbe n o).pins = s.pins ∧ (s.endProbe n o).freeIndex = s.freeIndex ∧
    (s.endProbe n o).pending = s.pending := by
  unfold State.endProbe
  (repeat' (first | split | dsimp only)) <;> simp

@[simp] theorem State.frame_endExchange (x : Exchange) (o : ExchangeOutcome) :
    (s.endExchange x o).engine = s.engine ∧ (s.endExchange x o).pins = s.pins ∧
    (s.endExchange x o).pending = s.pending := by
  unfold State.endExchange
  (repeat' (first | split | dsimp only)) <;> simp

end Sys2Proof.Machine
end

