-- ==== Sys2Proof/Laws/Memory.lean ====
section
/-! SUPPORT. The Value Store's memory: reads after writes, and the canonical form, which every memory operation keeps. -/

namespace Sys2Proof.Machine

/-! ### Reads after writes -/

theorem Memory.read_write_same (m : Memory) (x : Nat) (v : Byte) (h : m.wf = true) : (m.write x v).read x = v := by
  induction m with
  | nil =>
    by_cases hv : v = 0#8
    · simp [Memory.write, Memory.read, hv]
    · simp [Memory.write, Memory.read, hv]
  | cons c rest ih =>
    obtain ⟨a, w⟩ := c
    simp only [Memory.wf, Bool.and_eq_true, List.all_eq_true, decide_eq_true_eq] at h
    obtain ⟨⟨-, hlt⟩, hrest⟩ := h
    have absent : ∀ m : Memory, (∀ c ∈ m, x < c.1) → Memory.read m x = 0 := by
      intro m hm
      induction m with
      | nil => rfl
      | cons d tl ihm =>
        obtain ⟨b, u⟩ := d
        have hb : x < b := hm (b, u) (by simp)
        have htl := ihm (fun c hc => hm c (by simp [hc]))
        simp [Memory.read, htl, show b ≠ x by omega]
    by_cases h1 : x < a
    · by_cases hv : v = 0#8
      · have := absent ((a, w) :: rest) (by
          intro c hc
          rcases List.mem_cons.1 hc with rfl | hc
          · exact h1
          · exact lt_trans h1 (hlt c hc))
        simp [Memory.write, h1, hv, this]
      · simp [Memory.write, h1, hv, Memory.read]
    · by_cases h2 : x = a
      · subst h2
        by_cases hv : v = 0#8
        · simp [Memory.write, hv, absent rest hlt]
        · simp [Memory.write, hv, Memory.read]
      · simp [Memory.write, h1, h2, Memory.read, Ne.symm h2, ih hrest]

theorem Memory.read_write_other (m : Memory) (x y : Nat) (v : Byte) (h : y ≠ x) :
    (m.write x v).read y = m.read y := by
  induction m with
  | nil =>
    by_cases hv : v = 0#8
    · simp [Memory.write, hv]
    · simp [Memory.write, Memory.read, hv, Ne.symm h]
  | cons c rest ih =>
    obtain ⟨a, w⟩ := c
    by_cases h1 : x < a
    · by_cases hv : v = 0#8
      · simp [Memory.write, h1, hv]
      · simp [Memory.write, h1, hv, Memory.read, Ne.symm h]
    · by_cases h2 : x = a
      · subst h2
        by_cases hv : v = 0#8
        · simp [Memory.write, hv, Memory.read, Ne.symm h]
        · simp [Memory.write, hv, Memory.read, Ne.symm h]
      · by_cases h3 : a = y
        · subst h3
          simp [Memory.write, h1, h2, Memory.read]
        · simp [Memory.write, h1, h2, Memory.read, h3, ih]

/-! ### The canonical form -/

theorem Memory.write_keys (m : Memory) (x : Nat) (v : Byte) : ∀ c ∈ m.write x v, c.1 = x ∨ ∃ d ∈ m, d.1 = c.1 := by
  induction m with
  | nil =>
    intro c hc
    by_cases hv : v = 0#8
    · simp [Memory.write, hv] at hc
    · simp [Memory.write, hv] at hc
      exact .inl (by rw [hc])
  | cons d rest ih =>
    obtain ⟨a, w⟩ := d
    intro c hc
    unfold Memory.write at hc
    split at hc
    · split at hc
      · exact .inr ⟨c, hc, rfl⟩
      · rcases List.mem_cons.1 hc with rfl | hc
        · exact .inl rfl
        · exact .inr ⟨c, hc, rfl⟩
    · split at hc
      · split at hc
        · exact .inr ⟨c, List.mem_cons_of_mem _ hc, rfl⟩
        · rcases List.mem_cons.1 hc with rfl | hc
          · exact .inl rfl
          · exact .inr ⟨c, List.mem_cons_of_mem _ hc, rfl⟩
      · rcases List.mem_cons.1 hc with rfl | hc
        · exact .inr ⟨_, List.mem_cons_self .., rfl⟩
        · rcases ih c hc with h | ⟨e, he, h⟩
          · exact .inl h
          · exact .inr ⟨e, List.mem_cons_of_mem _ he, h⟩

theorem Memory.write_wf (m : Memory) (x : Nat) (v : Byte) (h : m.wf = true) : (m.write x v).wf = true := by
  induction m with
  | nil =>
    by_cases hv : v = 0#8
    · simp [Memory.write, Memory.wf, hv]
    · simp [Memory.write, Memory.wf, hv]
  | cons c rest ih =>
    obtain ⟨a, w⟩ := c
    have hc := h
    simp only [Memory.wf, Bool.and_eq_true, List.all_eq_true, decide_eq_true_eq] at h
    obtain ⟨⟨hw, hlt⟩, hrest⟩ := h
    by_cases h1 : x < a
    · by_cases hv : v = 0#8
      · simpa [Memory.write, h1, hv] using hc
      · have hall : ∀ b u, (b, u) ∈ rest → x < b := fun b u hb => lt_trans h1 (hlt (b, u) hb)
        rw [show Memory.write ((a, w) :: rest) x v = (x, v) :: (a, w) :: rest by simp [Memory.write, h1, hv]]
        unfold Memory.wf
        simp only [Bool.and_eq_true, List.all_eq_true, decide_eq_true_eq]
        refine ⟨⟨by simpa using hv, ?_⟩, hc⟩
        intro d hd
        rcases List.mem_cons.1 hd with rfl | hd
        · exact h1
        · exact hall d.1 d.2 hd
    · by_cases h2 : x = a
      · by_cases hv : v = 0#8
        · simpa [Memory.write, h2, hv] using hrest
        · subst h2
          rw [show Memory.write ((x, w) :: rest) x v = (x, v) :: rest by simp [Memory.write, hv]]
          unfold Memory.wf
          simp only [Bool.and_eq_true, List.all_eq_true, decide_eq_true_eq]
          exact ⟨⟨by simpa using hv, hlt⟩, hrest⟩
      · simp only [Memory.write, h1, h2, if_false]
        unfold Memory.wf
        simp only [Bool.and_eq_true, List.all_eq_true, decide_eq_true_eq]
        refine ⟨⟨hw, ?_⟩, ih hrest⟩
        intro d hd
        rcases Memory.write_keys rest x v d hd with h | ⟨e, he, h⟩
        · omega
        · exact h ▸ hlt e he

theorem Memory.writeAll_wf (m : Memory) (addrs : List Nat) (values : List Byte) (h : m.wf = true) :
    (m.writeAll addrs values).wf = true := by
  unfold Memory.writeAll
  induction addrs.zip values generalizing m with
  | nil => exact h
  | cons c rest ih => exact ih _ (Memory.write_wf m c.1 c.2 h)

theorem Memory.read_writeAll_other (m : Memory) (addrs : List Nat) (values : List Byte) (y : Nat) (h : y ∉ addrs) :
    (m.writeAll addrs values).read y = m.read y := by
  unfold Memory.writeAll
  have hz : ∀ c ∈ addrs.zip values, c.1 ≠ y := by
    intro c hc heq
    exact h (heq ▸ (List.of_mem_zip hc).1)
  revert hz
  induction addrs.zip values generalizing m with
  | nil => intro _; rfl
  | cons c rest ih =>
    intro hz
    rw [List.foldl_cons, ih _ fun d hd => hz d (List.mem_cons_of_mem _ hd)]
    exact Memory.read_write_other m c.1 y c.2 (hz c (by simp)).symm

/-- Bytes written at distinct addresses are the bytes read there. -/
theorem Memory.readAll_writeAll (m : Memory) (addrs : List Nat) (values : List Byte) (hm : m.wf = true)
    (hn : addrs.Nodup) (hl : values.length = addrs.length) : (m.writeAll addrs values).readAll addrs = values := by
  induction addrs generalizing m values with
  | nil => simpa [Memory.readAll] using (List.length_eq_zero_iff.1 hl).symm
  | cons a rest ih =>
    match values, hl with
    | v :: vs, hl =>
      have hnr : a ∉ rest := (List.nodup_cons.1 hn).1
      have hw := Memory.write_wf m a v hm
      have step : Memory.writeAll m (a :: rest) (v :: vs) = Memory.writeAll (Memory.write m a v) rest vs := rfl
      have htl := ih (Memory.write m a v) vs hw (List.nodup_cons.1 hn).2 (by simpa using hl)
      unfold Memory.readAll at htl ⊢
      rw [step, List.map_cons, htl, Memory.read_writeAll_other _ rest vs a hnr, Memory.read_write_same m a v hm]

/-- Memories in canonical form that read alike are equal data. -/
theorem Memory.eq_of_read (m n : Memory) (hm : m.wf = true) (hn : n.wf = true) (h : ∀ x, m.read x = n.read x) :
    m = n := by
  have absent : ∀ (m : Memory) (x : Nat), (∀ c ∈ m, x < c.1) → Memory.read m x = 0 := by
    intro m x hx
    induction m with
    | nil => rfl
    | cons d tl ih =>
      have hb := hx d (by simp)
      have := ih fun c hc => hx c (by simp [hc])
      simp [Memory.read, this, show d.1 ≠ x by omega]
  induction m generalizing n with
  | nil =>
    match n, hn with
    | [], _ => rfl
    | (b, u) :: rest, hn =>
      have := h b
      simp [Memory.wf, Memory.read] at this hn
      exact absurd this.symm hn.1.1
  | cons c rest ih =>
    obtain ⟨a, w⟩ := c
    simp only [Memory.wf, Bool.and_eq_true, List.all_eq_true, decide_eq_true_eq, bne_iff_ne] at hm
    match n, hn with
    | [], _ =>
      have := h a
      simp [Memory.read] at this
      exact absurd this hm.1.1
    | (b, u) :: rest', hn =>
      simp only [Memory.wf, Bool.and_eq_true, List.all_eq_true, decide_eq_true_eq, bne_iff_ne] at hn
      have hab : a = b := by
        rcases Nat.lt_trichotomy a b with hlt | heq | hlt
        · have ha := h a
          rw [absent ((b, u) :: rest') a (by
            intro d hd
            rcases List.mem_cons.1 hd with rfl | hd
            · exact hlt
            · exact lt_trans hlt (hn.1.2 d hd))] at ha
          simp [Memory.read] at ha
          exact absurd ha hm.1.1
        · exact heq
        · have hb := h b
          rw [absent ((a, w) :: rest) b (by
            intro d hd
            rcases List.mem_cons.1 hd with rfl | hd
            · exact hlt
            · exact lt_trans hlt (hm.1.2 d hd))] at hb
          simp [Memory.read] at hb
          exact absurd hb.symm hn.1.1
      subst hab
      have hwu : w = u := by simpa [Memory.read] using h a
      subst hwu
      rw [ih rest' hm.2 hn.2 fun x => ?_]
      by_cases hx : a = x
      · subst hx
        rw [absent rest a hm.1.2, absent rest' a hn.1.2]
      · simpa [Memory.read, hx] using h x

/-- The memory after reset has the canonical form. -/
theorem State.reset_mem_wf : State.reset.store.mem.wf = true := rfl

end Sys2Proof.Machine
end

