-- ==== Sys2Proof/Laws/Ops.lean ====
section
/-! SUPPORT. One lemma for each shared operation that says what it can do: reads after writes in the tables, the command
the arbiter takes, the answer delivered, retiring and cancelling, the endings of an exchange, and the bits of a
transaction and of a frame on the trunk. -/

namespace Sys2Proof.Machine

/-! ### Tables -/

@[simp] theorem PerPort.get_put_same {α : Type} (v : PerPort α) (p : Port) (x : α) : (v.put p x).get p = x := by
  cases p <;> rfl

theorem PerPort.get_put_other {α : Type} (v : PerPort α) (p q : Port) (x : α) (h : q ≠ p) :
    (v.put p x).get q = v.get q := by
  cases p <;> cases q <;> first | rfl | exact absurd rfl h

@[simp] theorem State.record_setRecord_same (s : State) (h : Handle) (r : Option StreamRecord) :
    (s.setRecord h r).record h = r := by
  simp [State.record]

theorem State.record_setRecord_other (s : State) (h k : Handle) (r : Option StreamRecord) (hk : k ≠ h) :
    (s.setRecord h r).record k = s.record k := by
  have : h.val ≠ k.val := fun e => hk (Fin.ext e.symm)
  simp [State.record, Vector.getElem_set_ne, this]

theorem State.record_setRecord (s : State) (h k : Handle) (r : Option StreamRecord) :
    (s.setRecord h r).record k = if k = h then r else s.record k := by
  split
  · next e => subst e; simp
  · next e => exact s.record_setRecord_other h k r e

@[simp] theorem State.node_setNode_same (s : State) (n : Node) (e : RosterEntry) : (s.setNode n e).node n = e := by
  simp [State.node]

theorem State.node_setNode_other (s : State) (n k : Node) (e : RosterEntry) (hk : k ≠ n) :
    (s.setNode n e).node k = s.node k := by
  have : n.val ≠ k.val := fun e => hk (Fin.ext e.symm)
  simp [State.node, Vector.getElem_set_ne, this]

@[simp] theorem State.request_setRequest_same (s : State) (id : ReqId) (q : Option Request) :
    (s.setRequest id q).request id = q := by
  simp [State.request]

theorem State.request_setRequest_other (s : State) (id k : ReqId) (q : Option Request) (hk : k ≠ id) :
    (s.setRequest id q).request k = s.request k := by
  have : id.val ≠ k.val := fun e => hk (Fin.ext e.symm)
  simp [State.request, Vector.getElem_set_ne, this]

/-! ### The arbiter and the ports -/

/-- The command taken is the arbiter's first, it is the named port's and it passes the test. -/
theorem State.takeCommand_eq_some {s t : State} {p : Port} {wanted : Byte → Bool} {c : Command} :
    s.takeCommand p wanted = some (c, t) ↔
      ∃ rest, s.arbiter.waiting = c :: rest ∧ c.port = p ∧ wanted c.code = true ∧
        t = { s with arbiter := { s.arbiter with waiting := rest } } := by
  unfold State.takeCommand
  constructor
  · intro h
    split at h
    · cases h
    · next d rest hw =>
      split at h
      · next hd =>
        simp only [Option.some.injEq, Prod.mk.injEq] at h
        exact ⟨rest, h.1 ▸ hw, h.1 ▸ hd.1, h.1 ▸ hd.2, h.2.symm⟩
      · cases h
  · rintro ⟨rest, hw, hp, hc, rfl⟩
    simp [hw, hp, hc]

/-- A command step does nothing, or takes the arbiter's first command, which has this name and comes from this port, and
delivers its owner's answer. -/
theorem State.serve_cases (s : State) (p : Port) (name : CommandName)
    (owner : Port → List Byte → State → State × Answer) :
    s.serve p name owner = s ∨
      ∃ c rest, s.arbiter.waiting = c :: rest ∧ c.port = p ∧ c.code = name.code ∧
        s.serve p name owner =
          (owner p c.body { s with arbiter := { s.arbiter with waiting := rest } }).1.deliver c
            (owner p c.body { s with arbiter := { s.arbiter with waiting := rest } }).2 := by
  unfold State.serve
  split
  · exact .inl rfl
  · next c t h =>
    obtain ⟨rest, hw, hp, hc, rfl⟩ := State.takeCommand_eq_some.1 h
    exact .inr ⟨c, rest, hw, hp, by simpa using hc, rfl⟩

/-- The command step when its command is the arbiter's first. -/
theorem State.serve_eq (s : State) (p : Port) (name : CommandName)
    (owner : Port → List Byte → State → State × Answer) (c : Command) (rest : List Command)
    (hw : s.arbiter.waiting = c :: rest) (hp : c.port = p) (hc : c.code = name.code) :
    s.serve p name owner =
      (owner p c.body { s with arbiter := { s.arbiter with waiting := rest } }).1.deliver c
        (owner p c.body { s with arbiter := { s.arbiter with waiting := rest } }).2 := by
  have h : s.takeCommand p (· == name.code) =
      some (c, { s with arbiter := { s.arbiter with waiting := rest } }) :=
    State.takeCommand_eq_some.2 ⟨rest, hw, hp, by simp [hc], rfl⟩
  simp only [State.serve, h]

@[simp] theorem State.deliver_reply (s : State) (c : Command) (r : ResultCode) (body : List Byte) :
    s.deliver c (.reply r body) = s.compose c.port c.tag r body := rfl

@[simp] theorem State.deliver_park (s : State) (c : Command) (k : ParkKind) :
    s.deliver c (.park k) = { s with arbiter := { s.arbiter with parked := some ⟨k, c.port, c.tag, false⟩ } } := rfl

/-- A composed result stands in the port's holder. -/
theorem State.compose_state (s : State) (p : Port) (tag : Byte) (r : ResultCode) (body : List Byte) :
    ((s.compose p tag r body).ports.get p).state = .resultReady (resultFrame tag r body) := by
  simp [State.compose]

/-- The parked command is left alone, or it is unparked: an orphan without a trace, another with its OK result. -/
theorem State.answerParked_cases (s : State) (waited : ParkKind → Bool) (body : ParkKind → List Byte) :
    s.answerParked waited body = s ∨
      ∃ k, s.arbiter.parked = some k ∧ waited k.kind = true ∧
        s.answerParked waited body =
          if k.orphan then { s with arbiter := { s.arbiter with parked := none } }
          else ({ s with arbiter := { s.arbiter with parked := none } } : State).compose k.port k.tag .ok (body k.kind) := by
  unfold State.answerParked
  split
  · exact .inl rfl
  · next k hk =>
    split
    · next hw => exact .inr ⟨k, hk, hw, rfl⟩
    · exact .inl rfl

/-! ### Records and requests leaving -/

/-- A CLOSING record is left alone; another loses its amendment and becomes CLOSING, or is freed. -/
theorem State.retire_cases (s : State) (h : Handle) (r : StreamRecord) :
    (r.state = .closing ∧ s.retire h r = s) ∨
    (r.state ≠ .closing ∧ s.recordInFlight h = true ∧
      s.retire h r =
        ((s.dropAmendment h r).setRecord h (some { r with amendment := none, state := .closing })).excuse h) ∨
    (r.state ≠ .closing ∧ s.recordInFlight h = false ∧
      s.retire h r = (s.dropAmendment h r).freeRecord h { r with amendment := none }) := by
  unfold State.retire
  by_cases hc : r.state = .closing
  · exact .inl ⟨hc, by simp [hc]⟩
  · by_cases hf : s.recordInFlight h = true
    · exact .inr (.inl ⟨hc, hf, by simp [hc, hf]⟩)
    · exact .inr (.inr ⟨hc, by simpa using hf, by simp [hc, hf]⟩)

/-- A CANCELLING request is left alone; another becomes CANCELLING off the queue, or is freed. -/
theorem State.cancel_cases (s : State) (id : ReqId) (q : Request) :
    (q.state = .cancelling ∧ s.cancel id q = s) ∨
    (q.state = .active ∧ s.requestInFlight id = true ∧
      s.cancel id q = (s.leaveQueue id).setRequest id (some { q with state := .cancelling })) ∨
    (q.state ≠ .cancelling ∧ ¬(q.state = .active ∧ s.requestInFlight id = true) ∧
      s.cancel id q = s.freeRequest id) := by
  unfold State.cancel
  by_cases hc : q.state = .cancelling
  · exact .inl ⟨hc, by simp [hc]⟩
  · by_cases hf : q.state = .active ∧ s.requestInFlight id = true
    · exact .inr (.inl ⟨hf.1, hf.2, by simp [hf.1, hf.2]⟩)
    · exact .inr (.inr ⟨hc, hf, by simp only [if_neg hc, if_neg hf]⟩)

/-- A freed record is free, and every other record stands as it did. -/
theorem State.record_freeRecord (s : State) (h k : Handle) (r : StreamRecord) :
    (s.freeRecord h r).record k = if k = h then none else s.record k := by
  unfold State.freeRecord
  simp only [State.record, State.table_excuse]
  exact (State.record_setRecord _ h k none).trans (by simp [State.record, State.discharge])

/-! ### The exchange -/

/-- With an exchange in flight the phases stay; otherwise the trunk, the tables and attention are all that can change.
-/
theorem State.advance_inFlight (s : State) (x : Exchange) (h : s.engine.state.inFlight = some x) : s.advance = s := by
  simp [State.advance, h]

/-- What an abandoned exchange leaves: an IDLE engine, and at most its own CLOSING record freed or its own CANCELLING
request freed. -/
theorem State.abandon_cases (s : State) :
    s.abandon = s.setEngine .idle ∨
    (∃ h r, s.record h = some r ∧ r.state = .closing ∧ s.abandon = (s.setEngine .idle).endClosing h r) ∨
    (∃ id q, s.request id = some q ∧ q.state = .cancelling ∧ s.abandon = (s.setEngine .idle).endCancelling id q) := by
  unfold State.abandon
  dsimp only
  split
  · exact .inl rfl
  · split
    · next h _ =>
      split
      · next r hr =>
        split
        · next hc => exact .inr (.inl ⟨h, r, hr, hc, rfl⟩)
        · exact .inl rfl
      · exact .inl rfl
    · next id _ _ =>
      split
      · next q hq =>
        split
        · next hc => exact .inr (.inr ⟨id, q, hq, hc, rfl⟩)
        · exact .inl rfl
      · exact .inl rfl
    · exact .inl rfl

@[simp] theorem State.engine_abandon (s : State) : s.abandon.engine = { s.engine with state := .idle } := by
  rcases s.abandon_cases with h | ⟨k, r, -, -, h⟩ | ⟨k, q, -, -, h⟩ <;> rw [h] <;> simp

/-- The trunk after the staged configuration is applied. -/
theorem State.trunk_applyStaged (s : State) :
    s.applyStaged.trunk =
      match s.trunk.staged with
      | none => s.trunk
      | some g => { s.trunk with applied := { s.trunk.applied with c := g.c, a := g.a }, staged := none } := by
  unfold State.applyStaged
  split <;> simp [*]

/-- The trunk after entry to FAULTED. -/
theorem State.state_enterFaulted (s : State) (cause : FaultCause) :
    (s.enterFaulted cause).trunk.state = .faulted ∧ (s.enterFaulted cause).trunk.faultCause = some cause ∧
    (s.enterFaulted cause).engine.state = .idle ∧ (s.enterFaulted cause).pins.tx = none ∧
    (s.enterFaulted cause).trunk.timer = none ∧ (s.enterFaulted cause).sched = ⟨[], [], []⟩ := by
  unfold State.enterFaulted
  dsimp only
  rw [State.trunk_raiseBoth, State.trunk_applyStaged]
  refine ⟨?_, ?_, ?_, ?_, ?_, ?_⟩
  · split <;> rfl
  · split <;> rfl
  · simp
  · simp
  · split <;> rfl
  · simp

/-! ### The bytes placed as they arrive -/

/-- The bytes that arrived before a reply is cut off, a free value, are placed as the whole reply's would be, and
there are none but in RECEIVING. -/
theorem State.placeArrived_cases (s : State) :
    (∃ x start, s.engine.state = .receiving x start ∧
      s.placeArrived =
        { s.placePayload x.poll (replyPayload x.poll (Config.arrivedBytes s.freeIndex)) with
          freeIndex := s.freeIndex + 1 }) ∨
    ((∀ x start, s.engine.state ≠ .receiving x start) ∧ s.placeArrived = s) := by
  unfold State.placeArrived
  cases s.engine.state <;> simp

/-! ### The bits of a transaction -/

/-- SDI brings one byte for each eight rising edges of SCK. -/
theorem length_sampledBytes (l : List Bool) : (sampledBytes l).length = l.length / 8 := by
  induction l using sampledBytes.induct with
  | case1 b7 b6 b5 b4 b3 b2 b1 b0 rest ih => simp only [sampledBytes, List.length_cons, ih]; omega
  | case2 l h =>
    have : l.length < 8 := by
      rcases l with _ | ⟨_, _ | ⟨_, _ | ⟨_, _ | ⟨_, _ | ⟨_, _ | ⟨_, _ | ⟨_, _ | ⟨_, _⟩⟩⟩⟩⟩⟩⟩⟩ <;>
        first | exact absurd rfl (h _ _ _ _ _ _ _ _ _) | (simp only [List.length_cons, List.length_nil]; omega)
    rw [sampledBytes, List.length_nil, Nat.div_eq_of_lt this]
    exact h

@[simp] theorem shiftedByte_zero (status : Byte) (r : Option (Bool × List Byte)) : shiftedByte status r 0 = status := rfl

@[simp] theorem shiftedByte_none (status : Byte) (k : Nat) : shiftedByte status none (k + 1) = 0x00 := rfl

@[simp] theorem shiftedByte_some (status : Byte) (held : Bool) (frame : List Byte) (k : Nat) :
    shiftedByte status (some (held, frame)) (k + 1) = (frame[k]?).getD 0x00 := rfl

/-- While SEL is high SDO is not driven. -/
theorem State.sdo_high (s : State) (p : Port) (n : Nat) (h : (s.ports.get p).txn = .high) : s.sdo p n = none := by
  simp [State.sdo, h]

/-- In a transaction the bytes are shifted out most significant bit first, eight falls of SCK to each. -/
theorem State.sdo_active (s : State) (p : Port) (k n : Nat) (status : Byte) (r : Option (Bool × List Byte))
    (h : (s.ports.get p).txn = .active status r) (hn : n < 8) :
    s.sdo p (8 * k + n) = some ((shiftedByte status r k).getLsbD (7 - n)) := by
  have hk : (8 * k + n) / 8 = k := by omega
  have hm : (8 * k + n) % 8 = n := by omega
  simp [State.sdo, h, hk, hm]

/-! ### The line bits of a frame -/

@[simp] theorem lineBits_nil : lineBits [] = [] := rfl

@[simp] theorem lineBits_cons (b : Byte) (frame : List Byte) : lineBits (b :: frame) = byteLineBits b ++ lineBits frame := by
  simp [lineBits]

/-- A byte takes ten line bits. -/
@[simp] theorem length_lineBits (frame : List Byte) : (lineBits frame).length = 10 * frame.length := by
  induction frame with
  | nil => rfl
  | cons b frame ih =>
    rw [lineBits_cons, List.length_append, ih, List.length_cons]
    simp only [byteLineBits, List.length_cons, List.length_nil]
    omega

/-- The line bits tell the byte, on TXD and on RXD alike. -/
theorem byteLineBits_injective {a b : Byte} (h : byteLineBits a = byteLineBits b) : a = b := by
  simp only [byteLineBits, List.cons.injEq, LineBit.data.injEq, and_true, true_and] at h
  obtain ⟨h0, h1, h2, h3, h4, h5, h6, h7⟩ := h
  refine BitVec.eq_of_getLsbD_eq fun i hi => ?_
  rcases i with _ | _ | _ | _ | _ | _ | _ | _ | i <;> first | assumption | omega

/-- The line bits of byte `k` stand at `10 k` and the nine places after it. -/
theorem lineBits_get (frame : List Byte) (k i : Nat) (hi : i < 10) :
    (lineBits frame)[10 * k + i]? = frame[k]?.bind fun b => (byteLineBits b)[i]? := by
  induction frame generalizing k with
  | nil => simp
  | cons b frame ih =>
    have hb : (byteLineBits b).length = 10 := rfl
    rw [lineBits_cons]
    rcases k with _ | k
    · rw [Nat.mul_zero, Nat.zero_add, List.getElem?_append_left (by omega)]
      rfl
    · have he : 10 * (k + 1) + i - (byteLineBits b).length = 10 * k + i := by omega
      rw [List.getElem?_append_right (by omega), he, ih]
      rfl

end Sys2Proof.Machine
end

