-- ==== Sys2Proof/Safety.lean ====
section
/-! DEFINITION. What a sound state of the controller is: the invariants that the spec's rules lay down over the whole
machine, each in the terms that statements use. -/

namespace Sys2Proof.Machine

/-! ### The Stream Table and the service entries (R4, R94, R124) -/

/-- No two live records have the same node, channel and direction (R4). -/
def State.KeysDistinct (s : State) : Prop :=
  ∀ h k r q, s.record h = some r → s.record k = some q → r.node = q.node → r.channel = q.channel →
    r.direction = q.direction → h = k

/-- The number of live records that name a node. -/
def State.liveAt (s : State) (n : Node) : Nat := handles.countP fun h => (s.record h).any fun r => r.node == n

/-- Every stream count is the number of live records naming the node (R124). -/
def State.CountsTrue (s : State) : Prop := ∀ n, (s.node n).streams = s.liveAt n

/-- No record has two service entries: an entry is made once, at the mark, for each listed record (R94). -/
def State.EntriesOnce (s : State) : Prop := (s.sched.entries.map ServiceEntry.handle).Nodup

/-- A CLOSING record holds no pending amendment: it was dropped when retirement began (R12, R20). -/
def State.ClosingBare (s : State) : Prop := ∀ h r, s.record h = some r → r.state = .closing → r.amendment = none

/-! ### The Load Map (R28) -/

/-- What a set of parameters charges at an index. -/
def Params.chargeAt (q : Params) (w k : Nat) : Nat := if dueAt q.period q.phase k then slotCost w q.len else 0

/-- What a record charges at an index: its applied charge and its pending amendment's. -/
def StreamRecord.chargedAt (r : StreamRecord) (w k : Nat) : Nat :=
  r.params.chargeAt w k +
  match r.amendment with
  | some am => am.params.chargeAt w k
  | none => 0

/-- The sum of the charges of the live records at an index. -/
def State.chargedAt (s : State) (k : Nat) : Nat :=
  (handles.map fun h =>
    match s.record h with
    | some r => r.chargedAt s.trunk.applied.w k
    | none => 0).sum

/-- The Load Map is true and within the admission limit (R28); nothing is staged while the trunk is stopped (R62). -/
structure State.LoadTrue (s : State) : Prop where
  sums : ∀ k : Fin 128, s.table.load[k.val] = s.chargedAt k.val
  within : ∀ k : Fin 128, s.table.load[k.val] ≤ s.trunk.admissionLimit
  bare : s.ClosingBare
  unstaged : s.stopped = true → s.trunk.staged = none

/-! ### The Value Store (R43, R47) -/

/-- The blocks that a record lists: its own and its amendment's. -/
def StreamRecord.listedBlocks (r : StreamRecord) : List Block :=
  r.blocks ++
  match r.amendment with
  | some am => am.blocks.getD []
  | none => []

/-- The blocks listed by the live records. -/
def State.listedBlocks (s : State) : List Block :=
  handles.flatMap fun h =>
    match s.record h with
    | some r => r.listedBlocks
    | none => []

/-- A record's block list, and its amendment's when the length changes, are of the size R44 gives; an amendment that
keeps the length has none (Table 1-5). -/
def StreamRecord.Sized (r : StreamRecord) : Prop :=
  r.blocks.length = blocksNeeded r.params.len ∧
  ∀ am, r.amendment = some am →
    match am.blocks with
    | none => am.params.len = r.params.len
    | some blocks => blocks.length = blocksNeeded am.params.len

/-- The free block set and the listed blocks are the 320 pool blocks, each once; the free set is kept ascending; every
list has its size (R43, R44). -/
structure State.PoolTrue (s : State) : Prop where
  partition : (s.store.free ++ s.listedBlocks).Perm poolBlocks
  ascending : s.store.free.Pairwise (· < ·)
  sized : ∀ h r, s.record h = some r → r.Sized
  bare : s.ClosingBare

/-! ### The exchange in flight (R67, R68, R78) -/

/-- A configuration of C and A within Table 2-4, its budget not below 0 (R36). -/
def inTable (c a : Nat) : Prop := 250 ≤ c ∧ c ≤ 8000 ∧ c % 50 = 0 ∧ 100 ≤ a ∧ a ≤ 4000 ∧ 18 + a ≤ c

/-- The applied and the staged configuration are within Table 2-4. -/
structure CycleUnit.ConfigInTable (u : CycleUnit) : Prop where
  applied : inTable u.applied.c u.applied.a
  window : 2 ≤ u.applied.w ∧ u.applied.w ≤ 40
  threshold : 2 ≤ u.applied.threshold ∧ u.applied.threshold ≤ 15
  interval : u.applied.interval ∈ [8, 16, 32, 64, 128]
  staged : ∀ g, u.staged = some g → inTable g.c g.a

/-- The phase in which an exchange of this kind is started and ends (R78). -/
def Poll.inPhase : Poll → Phase → Bool
  | .probe, ph => ph == .probes
  | .piece _ _ _ _, ph => ph == .pieces
  | _, ph => ph == .cyclic || ph == .retry

/-- An exchange in flight lies within a RUNNING or DRAINING cycle and in its scheduler's phase; its window ends by its
slot end and its slot by C − 10; and the next mark falls due at C (R65, R68, R78). -/
structure State.FlightSound (s : State) : Prop where
  config : s.trunk.ConfigInTable
  timer : s.inCycle = true → s.trunk.timer = some s.trunk.applied.c
  flight : ∀ x, s.engine.state.inFlight = some x → s.inCycle = true ∧ x.poll.inPhase s.trunk.phase = true ∧
    x.pollEnd + s.trunk.applied.w ≤ x.slotEnd ∧ x.slotEnd + 10 ≤ s.trunk.applied.c

/-! ### Leases (R17, R187, Table 1-1) -/

/-- A lease and its remaining: both absent, or a lease of 16..65535 with 1..lease cycles left. -/
def leasePair : Option Nat → Option Nat → Prop
  | none, none => True
  | some l, some m => 16 ≤ l ∧ l ≤ 65535 ∧ 1 ≤ m ∧ m ≤ l
  | _, _ => False

/-- A live leased record never holds a lease remaining of 0 (R187); a pending amendment's lease is in its range; a
CLOSING record has its exchange in flight (R12). -/
structure State.LeasesSound (s : State) : Prop where
  pair : ∀ h r, s.record h = some r → leasePair r.params.lease r.leaseRemaining
  amended : ∀ h r am l, s.record h = some r → r.amendment = some am → am.params.lease = some l → 16 ≤ l ∧ l ≤ 65535
  closing : ∀ h r, s.record h = some r → r.state = .closing → s.recordInFlight h = true

/-! ### Requests (R132) -/

/-- The acyclic queue holds each QUEUED or ACTIVE request exactly once and no other record (R132). -/
structure State.QueueTrue (s : State) : Prop where
  once : s.acyclic.queue.Nodup
  holds : ∀ id, id ∈ s.acyclic.queue ↔ ∃ q, s.request id = some q ∧ (q.state = .queued ∨ q.state = .active)

/-! ### Host ports and the arbiter (R156, R160, R162) -/

/-- The commands a port has in hand: waiting at the arbiter, or parked in its present session. -/
def State.inHand (s : State) (p : Port) : Nat :=
  (s.arbiter.waiting.countP fun c => c.port == p) +
  match s.arbiter.parked with
  | some k => if k.port = p ∧ k.orphan = false then 1 else 0
  | none => 0

/-- The parked command waits for the exchange in flight: that of a CLOSING record, or of a CANCELLING request (R162). -/
def State.ParkedSound (s : State) : Prop :=
  match s.arbiter.parked with
  | none => True
  | some k =>
    match k.kind with
    | .close h _ => s.recordInFlight h = true ∧ ∃ r, s.record h = some r ∧ r.state = .closing
    | .cancel id => s.requestInFlight id = true ∧ ∃ q, s.request id = some q ∧ q.state = .cancelling

/-- A WORKING port has exactly one command in hand, any other none (R156); a response that shows the held result shows
what still is in the holder (R159); a parked command waits for the exchange in flight. -/
structure State.PortsSound (s : State) : Prop where
  hand : ∀ p, s.inHand p = if (s.ports.get p).state = .working then 1 else 0
  shown : ∀ p status frame, (s.ports.get p).txn = .active status (some (true, frame)) →
    (s.ports.get p).state = .resultReady frame
  parked : s.ParkedSound

/-! ### Commands and their answers (R157, R158, R160) -/

/-- The arbiter is about to take the command `c`, which is port `p`'s and carries the code of `name`; `rest` waits
behind it. -/
def State.IsNext (s : State) (p : Port) (name : CommandName) (c : Command) (rest : List Command) : Prop :=
  s.arbiter.waiting = c :: rest ∧ c.port = p ∧ c.code = name.code

/-- The state with the command taken from the arbiter and a result composed for it: the port is RESULT_READY with that
frame, and nothing else differs (R158). -/
def State.answered (s : State) (c : Command) (rest : List Command) (r : ResultCode) (bytes : List Byte) : State :=
  { s with
    arbiter := { s.arbiter with waiting := rest }
    ports := s.ports.put c.port { s.ports.get c.port with state := .resultReady (resultFrame c.tag r bytes) } }

/-- The part of the machine a host command on one block leaves alone: the exchange in flight, the pins and the queue. -/
def State.SameLine (s t : State) : Prop :=
  t.engine = s.engine ∧ t.pins = s.pins ∧ t.freeIndex = s.freeIndex ∧ t.pending = s.pending

end Sys2Proof.Machine
end

