-- ==== Sys2Proof/Certificates/Slice0/Obligations.lean ====
section
/-! DEFINITION. The statements about the controller, for the provers: the machine as a whole, its invariants, and for
every command what it does and what it leaves. -/

open Sys2Proof Sys2Proof.Machine

/-! ### The machine -/

/-- The front command of the queue is what a step runs; with none waiting the block idles (the idling is the model's
choice, log entry 6). -/
def Obligations.StepRunsFrontCommand : Prop :=
  (∀ s c rest, s.pending = c :: rest → step s = exec c { s with pending := rest }) ∧
  ∀ s, s.pending = [] → step s = .next s

/-- No command stops the machine, and none touches the queue: the model has no fault and no refusal (log entry 26), a
command whose event cannot come in a state leaves it as it stands (log entry 2), and the queue is the model's own field
(log entry 20). All three are the model's choice. -/
def Obligations.EveryCommandGoesOn : Prop :=
  ∀ c s, ∃ t, exec c s = .next t ∧ t.pending = s.pending

/-- What the spec's rules give each block after a device reset (R1, R28, R43, R60, R78, R94, R115, R127, R130, R133,
R147, R149, R165). -/
def Obligations.ResetValues : Prop :=
  let s := State.reset
  (∀ h, s.record h = none) ∧ (∀ k : Fin 128, s.table.load[k.val] = 0) ∧
  s.store.free.length = 320 ∧ (∀ b, b ∈ s.store.free ↔ b.val < 320) ∧
  s.trunk.state = .off ∧ s.trunk.cycle = 0 ∧ s.trunk.marksSent = 0 ∧ s.trunk.haltRequested = false ∧
  s.trunk.faultCause = none ∧ s.trunk.applied = ⟨1000, 150, 4, 4, 32⟩ ∧ s.trunk.staged = none ∧
  s.trunk.timer = none ∧ s.trunk.admissionLimit = 832 ∧
  s.sched = ⟨[], [], []⟩ ∧ s.engine.state = .idle ∧ s.pins.tx = none ∧
  (∀ id, s.request id = none) ∧ s.acyclic.queue = [] ∧ s.acyclic.deferred = [] ∧ s.acyclic.probeList = [] ∧
  s.acyclic.scanPending = false ∧ (∀ n, s.node n = ⟨.unknown, none, 0, 0⟩) ∧
  (∀ p, (s.ports.get p).state = .idle ∧ (s.ports.get p).dropped = false ∧ (s.ports.get p).lost = false ∧
    (s.ports.get p).frameError = false ∧ (s.ports.get p).mask = BitVec.allOnes 14 ∧
    (∀ src, (s.attn.get p).entry src = 0) ∧ s.attnLine p = false) ∧
  s.arbiter.waiting = [] ∧ s.arbiter.parked = none

/-- The state after reset meets every invariant stated here. -/
def Obligations.ResetIsSound : Prop :=
  State.reset.store.mem.wf = true ∧ State.reset.KeysDistinct ∧ State.reset.CountsTrue ∧ State.reset.EntriesOnce ∧
  State.reset.PoolTrue ∧ State.reset.LoadTrue ∧ State.reset.QueueTrue ∧ State.reset.FlightSound ∧
  State.reset.LeasesSound ∧ State.reset.PortsSound

/-! ### Invariants that every step keeps -/

/-- The Value Store's memory keeps its canonical form, which is the model's choice of how the contents are held (log
entry 3). -/
def Obligations.StepKeepsMemoryCanonical : Prop :=
  ∀ s t, s.store.mem.wf = true → step s = .next t → t.store.mem.wf = true

/-- No two live records ever have the same node, channel and direction (R4), every roster entry's stream count stays the
number of live records naming its node (R124), and no record has two service entries (R94). -/
def Obligations.StepKeepsKeysAndCounts : Prop :=
  (∀ s t, s.KeysDistinct → step s = .next t → t.KeysDistinct) ∧
  (∀ s t, s.CountsTrue → step s = .next t → t.CountsTrue) ∧
  ∀ s t, s.EntriesOnce → step s = .next t → t.EntriesOnce

/-- No pool block is ever free and listed, listed twice or mislaid (R43). -/
def Obligations.StepKeepsBlockPartition : Prop :=
  ∀ s t, s.PoolTrue → step s = .next t → t.PoolTrue

/-- The Load Map stays the sum of the charges and within the admission limit (R28). -/
def Obligations.StepKeepsLoadMap : Prop :=
  ∀ s t, s.LoadTrue → step s = .next t → t.LoadTrue

/-- The acyclic queue holds the QUEUED and ACTIVE requests, each once, and no other (R132). -/
def Obligations.StepKeepsQueue : Prop :=
  ∀ s t, s.QueueTrue → step s = .next t → t.QueueTrue

/-- An exchange is in flight only within a RUNNING or DRAINING cycle, in its scheduler's phase, with its slot ending
by C − 10 (R67, R68, R78). The moments are those of the model's clock (log entry 4). -/
def Obligations.StepKeepsFlightSound : Prop :=
  ∀ s t, s.FlightSound → step s = .next t → t.FlightSound

/-- A WORKING port has exactly one command in hand and any other none, a result that is being shown is still held, and a
parked command waits for the exchange in flight (R156, R159, R162). -/
def Obligations.StepKeepsPortsSound : Prop :=
  ∀ s t, s.PortsSound → step s = .next t → t.PortsSound

/-- A live leased record never holds a lease remaining of 0 (R187). -/
def Obligations.StepKeepsLeasesSound : Prop :=
  ∀ s t, s.FlightSound → s.LeasesSound → step s = .next t → t.LeasesSound

/-! ### What several statements share (R15, R97, R98, R106, R109, R117, R122, R126, R133, R142, R164) -/

/-- The attention sets with reasons merged into the GLOBAL entry of both ports and, port by port, into STREAM entries
(R147, R148). -/
def told (s : State) (global : ReasonSet) (stream : Port → Handle → ReasonSet) : PerPort AttnSet :=
  let merged := fun p => Vector.ofFn fun i : Fin 73 =>
    (s.attn.get p)[i.val] |||
      if h : 9 ≤ i.val then stream p ⟨i.val - 9, by have := i.isLt; omega⟩ else if i = 0 then global else 0
  ⟨merged .a, merged .b⟩

/-- The roster with the entry of a node replaced. -/
def withNode (s : State) (n : Node) (e : RosterEntry) : Vector RosterEntry 62 := s.roster.set n.val e n.isLt

/-- The lists without a record: off the due list and the retry list, its service entry EXCUSED unless it is SERVED
(R97); that this holds after the cycle's settlement too is the model's choice (log entry 27). -/
def unlisted (s : State) (h : Handle) : CyclicScheduler :=
  { due := s.sched.due.filter (· ≠ h), retry := s.sched.retry.filter (· ≠ h)
    entries := s.sched.entries.map fun e =>
      if e.handle = h ∧ e.disposition ≠ .served then { e with disposition := .excused } else e }

/-- A record that counts a miss at the settlement (R109). -/
def missed (r : StreamRecord) : StreamRecord :=
  { r with counters := { r.counters with missed := min (r.counters.missed + 1) 65535,
                                         consecutive := min (r.counters.consecutive + 1) 65535 } }

/-- The settlement counts a miss against the record at a handle: it is ACTIVE and its entry is UNSERVED (R109). -/
def countsMiss (s : State) (k : Handle) (q : StreamRecord) : Bool :=
  q.state == .active && s.sched.entries.any fun e => e.handle == k && e.disposition == .unserved

/-- The cycle settled: each UNSERVED ACTIVE record counts one miss, and MISS_LIMIT is raised to its owner exactly when
the run reaches its limit (R109, R110). -/
def settledCycle (s : State) : State :=
  let settled := fun k : Handle => (s.record k).map fun q => if countsMiss s k q then missed q else q
  { s with
    table := { s.table with records := Vector.ofFn settled }
    attn := told s 0 fun p k =>
      match s.record k with
      | none => 0
      | some q =>
        if q.owner = p ∧ countsMiss s k q = true ∧ q.params.missLimit = some (missed q).counters.consecutive then
          Reason.missLimit.bit
        else 0 }

/-- Where ACYCLIC stands: probe service while an address is listed and fewer than two probes were started, then pieces
while a request is queued and the head was not deferred in this phase, and then the quiet line; with the guard begun,
the quiet line at once (R68, R126, R133). -/
def acyclicPhase (s : State) (probing : Bool) : Phase :=
  if s.trunk.guard then .over
  else if probing = true ∧ s.acyclic.probeList ≠ [] ∧ s.acyclic.probesRun < 2 then .probes
  else
    match s.acyclic.queue with
    | [] => .over
    | id :: _ => if id ∈ s.acyclic.deferred then .over else .pieces

/-- RETRY ended: the cycle is settled and ACYCLIC begins with no address deferred and no probe started (R109, R111,
R126, R133). -/
def acyclicBegun (s : State) : State :=
  let u := { settledCycle s with acyclic := { s.acyclic with deferred := [], probesRun := 0 } }
  { u with trunk := { u.trunk with phase := acyclicPhase u true } }

/-- The state with the phases of the cycle moved on as far as they go. With an exchange in flight they stay. CYCLIC ends
when no entry is WAITING, RETRY when the retry list is empty, which settles the cycle, and ACYCLIC passes from probes to
pieces to the quiet line (R67, R68, R98, R106, R109, R126, R133). -/
def movedOn (s : State) : State :=
  if s.engine.state.inFlight ≠ none then s
  else
    match s.trunk.phase with
    | .cyclic =>
      if ∃ e, e ∈ s.sched.entries ∧ e.disposition = .waiting then s
      else if s.sched.retry ≠ [] then { s with trunk := { s.trunk with phase := .retry } }
      else acyclicBegun s
    | .retry => if s.sched.retry ≠ [] then s else acyclicBegun s
    | .probes => { s with trunk := { s.trunk with phase := acyclicPhase s true } }
    | .pieces => { s with trunk := { s.trunk with phase := acyclicPhase s false } }
    | .idle | .mark | .over => s

/-- An answered report: the node is PRESENT with failures 0 and, if a probe brought one, its identity; ROSTER_CHANGED
goes to both ports when it was not PRESENT; from LOST its SUSPENDED records become ACTIVE with sequence bit 0 and
resync pending and their owners are told (R9, R115, R117, R122). -/
def nodeAnswered (s : State) (n : Node) (identity : Option Identity) : State :=
  let e := s.node n
  let back := fun r : StreamRecord => decide (e.state = .lost ∧ r.node = n ∧ r.state = .suspended)
  let resumed := fun r : StreamRecord =>
    if back r then { r with state := .active, seqBit := false, resync := true } else r
  { s with
    roster := withNode s n { e with
      state := .present
      failures := 0
      identity := match identity with
        | some i => some i
        | none => e.identity }
    table := { s.table with records := s.table.records.map fun o => o.map resumed }
    attn := told s (if e.state = .present then 0 else Reason.rosterChanged.bit) fun p k =>
      match s.record k with
      | none => 0
      | some r => if r.owner = p ∧ back r = true then Reason.resumed.bit else 0 }

/-- The parked command ended when it is the one that waited for this: answered OK with a body, or, an orphan, without a
trace (R162, R164). -/
def unparked (s : State) (body : ParkKind → Option (List Byte)) : State :=
  match s.arbiter.parked with
  | none => s
  | some k =>
    match body k.kind with
    | none => s
    | some bytes =>
      { s with
        arbiter := { s.arbiter with parked := none }
        ports := if k.orphan then s.ports
          else s.ports.put k.port { s.ports.get k.port with state := .resultReady (resultFrame k.tag .ok bytes) } }

/-- What answers the parked CLOSE_STREAM of a record: the handle, that it waited, whether an amendment was dropped
(R170). -/
def closeAnswer (h : Handle) (k : ParkKind) : Option (List Byte) :=
  match k with
  | .close h' dropped => if h' = h then some [byte h.val, 1, if dropped then 1 else 0] else none
  | .cancel _ => none

/-- What answers the parked CANCEL_REQUEST of a request: the state ACTIVE and the progress (R142). -/
def cancelAnswer (id : ReqId) (q : Request) (k : ParkKind) : Option (List Byte) :=
  match k with
  | .close _ _ => none
  | .cancel id' => if id' = id then some (2 :: be16 q.progress) else none

/-- `u` is `s` with a CLOSING record freed at the end of its exchange: its charge, its blocks, its stream count and its
place on the lists are released, and its parked CLOSE_STREAM is answered (R13, R15, R46, R97, R124). -/
def closedAtEnd (s : State) (h : Handle) (r : StreamRecord) (u : State) : Prop :=
  u = { unparked s (closeAnswer h) with
        table := ⟨s.table.records.set h.val none h.isLt, u.table.load⟩
        store := { s.store with free := u.store.free }
        roster := withNode s r.node { s.node r.node with streams := (s.node r.node).streams - 1 }
        sched := unlisted s h } ∧
  (∀ k : Fin 128, u.table.load[k.val] = s.table.load[k.val] - r.params.chargeAt s.trunk.applied.w k) ∧
  ∀ b, b ∈ u.store.free ↔ b ∈ s.store.free ∨ b ∈ r.blocks

/-- The acyclic queue and the deferred set without a request, its record replaced (R132, R133). -/
def outOfQueue (s : State) (id : ReqId) (q : Option Request) : AcyclicScheduler :=
  { s.acyclic with
    requests := s.acyclic.requests.set id.val q id.isLt
    queue := s.acyclic.queue.filter (· ≠ id)
    deferred := s.acyclic.deferred.filter (· ≠ id) }

/-- The state with a CANCELLING request freed at the end of its piece and its parked CANCEL_REQUEST answered (R142). -/
def cancelledAtEnd (s : State) (id : ReqId) (q : Request) : State :=
  { unparked s (cancelAnswer id q) with acyclic := outOfQueue s id none }

/-- Where byte `i` of a reply's payload is placed: for a COLLECT poll in the arrival half, for a read piece in the
request's area from the piece's offset; others are not stored in the Value Store (R47, R48, R58, R84). -/
def placeOf (s : State) (p : Poll) (i : Nat) : Option Nat :=
  match p with
  | .collect h len _ _ => (s.record h).bind fun r => (valueAddrs r.blocks r.publishedHalf.other len)[i]?
  | .piece id .read offset n => if i < n then some (32 * (320 + 8 * id.val) + offset + i) else none
  | _ => none

/-- `mem` holds the Value Store with payload bytes placed: each in its place, and every other byte as it was (R48, R58,
R84). A byte is found in its place when the memory is canonical and no block is listed twice. -/
def placed (s : State) (p : Poll) (payload : List Byte) (mem : Memory) : Prop :=
  (s.store.mem.wf = true → mem.wf = true) ∧
  (s.store.mem.wf = true → s.PoolTrue → ∀ i v a, payload[i]? = some v → placeOf s p i = some a → mem.read a = v) ∧
  ∀ a, (∀ i, i < payload.length → placeOf s p i ≠ some a) → mem.read a = s.store.mem.read a

/-- The identity holding with the payload bytes of a probe's reply placed, at most 8; that the bytes beyond them stay
is the model's choice (log entry 29). -/
def heldIdentity (s : State) (p : Poll) (payload : List Byte) : List Byte :=
  if p = .probe then payload.take 8 ++ s.engine.identity.drop (min 8 payload.length) else s.engine.identity

/-- `u` is `s` as an event that cuts a reply in reception off finds it: the payload bytes among those received whole so
far stand in their places (R84, R90). Which bytes those are is a free value (log entry 13). -/
def cutOff (s u : State) : Prop :=
  match s.engine.state with
  | .receiving x _ =>
    let payload := replyPayload x.poll (Config.arrivedBytes s.freeIndex)
    ∃ mem, placed s x.poll payload mem ∧ u = { s with
      store := { s.store with mem := mem }
      engine := { s.engine with identity := heldIdentity s x.poll payload }
      freeIndex := s.freeIndex + 1 }
  | _ => u = s

/-! ### How the commands are answered (R158, R162, R167) -/

/-- The host commands whose refusals change nothing, with their names. AMEND_STREAM may have released an earlier
amendment (R34), and START_TRUNK judges a pin (R61): each has its own statement. -/
def plainCommands (p : Port) : List (Instr × CommandName) :=
  [(.openStream p, .openStream), (.closeStream p, .closeStream), (.readStream p, .readStream),
    (.findStream p, .findStream), (.postValue p, .postValue), (.renewLeases p, .renewLeases),
    (.restartStream p, .restartStream), (.readLoad p, .readLoad), (.sendRequest p, .sendRequest),
    (.fetchRequest p, .fetchRequest), (.cancelRequest p, .cancelRequest), (.readNode p, .readNode),
    (.scanNodes p, .scanNodes), (.haltTrunk p, .haltTrunk), (.setConfig p, .setConfig), (.readConfig p, .readConfig),
    (.readAttn p, .readAttn), (.setAttnMask p, .setAttnMask)]

/-- A host command taken is refused, and then nothing but its port's result differs; or it is answered OK; or it is
parked and its port's part stays as it was (R158, R162, R167). -/
def Obligations.CommandRefusedAnsweredOrParked : Prop :=
  ∀ p i name s c rest, (i, name) ∈ plainCommands p → s.IsNext p name c rest →
    ∃ t, exec i s = .next t ∧
      ((∃ r bytes, r ≠ .ok ∧ t = s.answered c rest r bytes) ∨
       (∃ bytes, (t.ports.get p).state = .resultReady (resultFrame c.tag .ok bytes)) ∨
       (t.ports = s.ports ∧ ∃ k, t.arbiter = ⟨rest, some ⟨k, p, c.tag, false⟩⟩))

/-! ### OPEN_STREAM (R2, R3, R29 to R31, R44, R45, R123, R168) -/

/-- The identity held for a node, if any, has the channel and takes the length (R123). -/
def identityAllows (e : RosterEntry) (channel len : Nat) : Prop :=
  ∀ i, e.identity = some i → channel < i.channels ∧ len ≤ i.largest

/-- No live record holds the key (R4). -/
def keyFree (s : State) (n : Node) (channel : Nat) (d : Direction) : Prop :=
  ∀ k r, s.record k = some r → ¬(r.node = n ∧ r.channel = channel ∧ r.direction = d)

/-- The handle R3 selects: the lowest free one without an attention entry, or, when every free handle has one, the
lowest free. -/
def handleTaken (s : State) (h : Handle) : Prop :=
  s.record h = none ∧
  ((s.cleanHandle h = true ∧ ∀ k, k < h → s.record k = none → s.cleanHandle k = false) ∨
   ((∀ k, s.record k = none → s.cleanHandle k = false) ∧ ∀ k, k < h → s.record k ≠ none))

/-- The phase OPEN_STREAM is tested at: the named one, or the one R31 chooses. -/
def openPhase (s : State) (g : OpenArgs) : Nat :=
  match g.phase with
  | .fixed ph => ph
  | .any => choosePhase s.table.load g.period (13 + g.len + s.trunk.applied.w)

/-- At every index where the charge falls due, the entry and the cost are within the limit (R29). -/
def chargeFits (load : Vector Nat 128) (period phase cost limit : Nat) : Prop :=
  ∀ k : Fin 128, k.val % period = phase → load[k.val] + cost ≤ limit

/-- An OPEN_STREAM that passes every check creates the record of Table 1-2 at the handle of R3, with the lowest free
blocks, its charge at every due index and its node's stream count, and changes nothing else. -/
def Obligations.OpenCreatesRecord : Prop :=
  ∀ p s c rest g n h, s.IsNext p .openStream c rest → readOpen c.body = some g → g.inRange = true →
    nodeOf? g.node = some n → identityAllows (s.node n) g.channel g.len → keyFree s n g.channel g.direction →
    handleTaken s h → blocksNeeded g.len ≤ s.store.free.length →
    chargeFits s.table.load g.period (openPhase s g) (13 + g.len + s.trunk.applied.w) s.trunk.admissionLimit →
    ∃ t, exec (.openStream p) s = .next t ∧
      t.record h = some
        { owner := p, node := n, channel := g.channel, direction := g.direction,
          params := ⟨g.period, openPhase s g, g.len, g.retryLimit, g.missLimit, g.lease⟩, leaseRemaining := g.lease,
          state := if (s.node n).state = .lost then .suspended else .active, seqBit := false, resync := true,
          blocks := s.store.free.take (2 * ((g.len + 31) / 32)), publishedHalf := .first, sample := none,
          currentHalf := .first, current := none, posted := false, counters := ⟨0, 0, 0, 0, 0⟩, amendment := none } ∧
      (∀ k, k ≠ h → t.record k = s.record k) ∧
      (∀ k : Fin 128, t.table.load[k.val] = s.table.load[k.val] +
        if k.val % g.period = openPhase s g then 13 + g.len + s.trunk.applied.w else 0) ∧
      t.store = { s.store with free := s.store.free.drop (2 * ((g.len + 31) / 32)) } ∧
      t.node n = { s.node n with streams := (s.node n).streams + 1 } ∧ (∀ m, m ≠ n → t.node m = s.node m) ∧
      (∀ q, (t.attn.get q).entry (.stream h) = 0) ∧
      (∀ q src, src ≠ .stream h → (t.attn.get q).entry src = (s.attn.get q).entry src) ∧
      t.trunk = s.trunk ∧ t.sched = s.sched ∧ t.acyclic = s.acyclic ∧ s.SameLine t ∧
      t.arbiter = { s.arbiter with waiting := rest } ∧
      t.ports = (s.answered c rest .ok [byte h.val, byte (openPhase s g),
        if (s.node n).state = .lost then 1 else 0]).ports

/-- OPEN_STREAM is refused with the first check it fails, in the order of R168, and then changes nothing. -/
def Obligations.OpenChecksInOrder : Prop :=
  ∀ p s c rest, s.IsNext p .openStream c rest →
    (readOpen c.body = none → exec (.openStream p) s = .next (s.answered c rest .badArgument [])) ∧
    ∀ g, readOpen c.body = some g →
      (g.inRange = false → exec (.openStream p) s = .next (s.answered c rest .badArgument [])) ∧
      ∀ n, g.inRange = true → nodeOf? g.node = some n →
        (¬identityAllows (s.node n) g.channel g.len →
          exec (.openStream p) s = .next (s.answered c rest .notSupported [])) ∧
        (identityAllows (s.node n) g.channel g.len →
          (¬keyFree s n g.channel g.direction → exec (.openStream p) s = .next (s.answered c rest .conflict [])) ∧
          (keyFree s n g.channel g.direction →
            ((∀ h, s.record h ≠ none) → exec (.openStream p) s = .next (s.answered c rest .tableFull [])) ∧
            ((∃ h, s.record h = none) →
              (s.store.free.length < blocksNeeded g.len →
                exec (.openStream p) s = .next (s.answered c rest .noSpace [])) ∧
              (blocksNeeded g.len ≤ s.store.free.length →
                ¬chargeFits s.table.load g.period (openPhase s g) (13 + g.len + s.trunk.applied.w)
                  s.trunk.admissionLimit →
                exec (.openStream p) s = .next (s.answered c rest .noBudget [])))))

/-- The phase chosen for ANY has the smallest largest load of all candidates, the lowest of equals, and it is within a
limit exactly when some candidate is (R31). -/
def Obligations.PhaseAnyIsLeastLoaded : Prop :=
  ∀ (load : Vector Nat 128) (period cost limit : Nat), period ∈ periods →
    let worst := fun p => (List.finRange 128).foldl
      (fun m k => if k.val % period = p then max m (load[k.val] + cost) else m) 0
    choosePhase load period cost < period ∧
    (∀ p, p < period → worst (choosePhase load period cost) ≤ worst p) ∧
    (∀ p, p < choosePhase load period cost → worst (choosePhase load period cost) < worst p) ∧
    (chargeFits load period (choosePhase load period cost) cost limit ↔
      ∃ p, p < period ∧ chargeFits load period p cost limit)

/-! ### The commands that name a stream (R1, R6, R14, R15, R19, R33, R34, R167, R169, R170) -/

/-- The commands that act on a record of the sending port alone. -/
def ownerCommands (p : Port) : List (Instr × CommandName) :=
  [(.amendStream p, .amendStream), (.closeStream p, .closeStream), (.postValue p, .postValue),
    (.restartStream p, .restartStream)]

/-- The handle byte of such a command's body, when the body passes the form check. -/
def handleByte (name : CommandName) (body : List Byte) : Option Byte :=
  match name with
  | .amendStream => (readAmend body).map AmendArgs.handle
  | .postValue => body.head?
  | _ => if body.length = 1 then body.head? else none

/-- A command on a stream is refused BAD_ARGUMENT for its form, NO_SUCH for a handle that names no live record,
NOT_OWNER from the other port, and, unless it is RESTART_STREAM of another state, WRONG_STATE on a CLOSING record, in
this order, and a refusal changes nothing. That AMEND_STREAM with a named lease coded 1..15 fails the form check, and
so is refused before NO_SUCH, is the model's choice (log entry 8). -/
def Obligations.StreamCommandRefusals : Prop :=
  ∀ p i name (s : State) c rest, (i, name) ∈ ownerCommands p → s.IsNext p name c rest →
    (handleByte name c.body = none → exec i s = .next (s.answered c rest .badArgument [])) ∧
    ∀ b, handleByte name c.body = some b →
      ((∀ h : Handle, h.val = b.toNat → s.record h = none) → exec i s = .next (s.answered c rest .noSuch [])) ∧
      ∀ (h : Handle) r, h.val = b.toNat → s.record h = some r →
        (r.owner ≠ p → exec i s = .next (s.answered c rest .notOwner [])) ∧
        (r.owner = p → r.state = .closing → exec i s = .next (s.answered c rest .wrongState []))

/-- `u` is `s` with the pending amendment of a record released, when it has one; the free block set stays ascending, so
that its first members are its lowest-numbered ones (R34, R44). -/
def releasedFrom (s : State) (h : Handle) (r : StreamRecord) (u : State) : Prop :=
  u = { s with table := u.table, store := { s.store with free := u.store.free } } ∧
  u.record h = some { r with amendment := none } ∧ (∀ k, k ≠ h → u.record k = s.record k) ∧
  (∀ k : Fin 128, u.table.load[k.val] = s.table.load[k.val] -
    match r.amendment with
    | some am => am.params.chargeAt s.trunk.applied.w k
    | none => 0) ∧
  (∀ b, b ∈ u.store.free ↔ b ∈ s.store.free ∨ ∃ am, r.amendment = some am ∧ b ∈ am.blocks.getD []) ∧
  (s.PoolTrue → u.store.free.Pairwise (· < ·))

/-- The parameters of an amendment: named fields from the command, the others from the record, the phase as R33 forms
it (R19, R33). -/
def amendedParams (g : AmendArgs) (q : Params) (load : Vector Nat 128) (w : Nat) : Params :=
  let period := g.period.getD q.period
  let len := g.len.getD q.len
  { period := period
    phase :=
      match g.phase with
      | none => q.phase % period
      | some (.fixed ph) => ph
      | some .any => choosePhase load period (13 + len + w)
    len := len, retryLimit := g.retryLimit.getD q.retryLimit, missLimit := g.missLimit.getD q.missLimit
    lease := g.lease.getD q.lease }

/-- The blocks an amendment takes: none when it keeps the length (R44). -/
def amendmentNeeds (q q' : Params) : Nat := if q'.len = q.len then 0 else 2 * ((q'.len + 31) / 32)

/-- An AMEND_STREAM that has passed WRONG_STATE has released the earlier amendment, whatever becomes of it; the result
says whether there was one. It is then refused with the first check it fails, or gives the record its pending amendment,
with blocks of its own when the length changes, the lowest-numbered free ones, charged beside the record's own charge
(R19, R33, R34, R44, R169). -/
def Obligations.AmendStream : Prop :=
  ∀ p (s : State) c rest g h r, s.IsNext p .amendStream c rest → readAmend c.body = some g → g.handle.toNat = h.val →
    s.record h = some r → r.owner = p → r.state ≠ .closing →
    ∃ u, releasedFrom s h r u ∧
      let flag := if r.amendment = none then 0#8 else 1#8
      let q := amendedParams g r.params u.table.load u.trunk.applied.w
      let n := amendmentNeeds r.params q
      let fits := chargeFits u.table.load q.period q.phase (13 + q.len + u.trunk.applied.w) u.trunk.admissionLimit
      let lengthFits := ∀ i, (u.node r.node).identity = some i → q.len ≤ i.largest
      (g.inRange r.params = false → exec (.amendStream p) s = .next (u.answered c rest .badArgument [flag])) ∧
      (g.inRange r.params = true →
        (¬lengthFits → exec (.amendStream p) s = .next (u.answered c rest .notSupported [flag])) ∧
        (lengthFits →
          (u.store.free.length < n → exec (.amendStream p) s = .next (u.answered c rest .noSpace [flag])) ∧
          (n ≤ u.store.free.length → ¬fits →
            exec (.amendStream p) s = .next (u.answered c rest .noBudget [flag])) ∧
          (n ≤ u.store.free.length → fits → exec (.amendStream p) s = .next
            { u.answered c rest .ok [flag, byte q.phase] with
              table :=
                { records := u.table.records.set h.val
                    (some { r with
                      amendment := some ⟨q, if q.len = r.params.len then none else some (u.store.free.take n)⟩ })
                    h.isLt
                  load := Vector.ofFn fun k => u.table.load[k.val] + q.chargeAt u.trunk.applied.w k.val }
              store := { u.store with free := u.store.free.drop n } })))

/-- CLOSE_STREAM of a record with no exchange in flight frees it at once: the charge, the blocks, the amendment's too,
the stream count and the place on the lists are released, and the result says that it did not wait; a phase that
waited for this record alone ends at that moment, RETRY with its settlement. While its exchange is in flight it
becomes CLOSING: its amendment is dropped at once, its charge, blocks and count are kept, and the command is parked,
the port's part unchanged (R12 to R14, R20, R98, R106, R162, R170). That the phase ends in the same step is log entry
12. That the record's service entry becomes EXCUSED in every phase, after the settlement and in HALTED too, where R109
has entries keep their dispositions, is the model's choice (log entry 27). -/
def Obligations.CloseStream : Prop :=
  ∀ p (s : State) c rest b h r, s.EntriesOnce → s.IsNext p .closeStream c rest → c.body = [b] → b.toNat = h.val →
    s.record h = some r → r.owner = p → r.state ≠ .closing → ∃ t, exec (.closeStream p) s = .next (movedOn t) ∧
      (∀ k, k ≠ h → t.record k = s.record k) ∧ t.sched = unlisted s h ∧
      t.attn = s.attn ∧ t.trunk = s.trunk ∧ t.acyclic = s.acyclic ∧ s.SameLine t ∧ t.store.mem = s.store.mem ∧
      (∀ m, m ≠ r.node → t.node m = s.node m) ∧
      (s.recordInFlight h = false →
        t.record h = none ∧
        (∀ k : Fin 128, t.table.load[k.val] = s.table.load[k.val] - r.chargedAt s.trunk.applied.w k) ∧
        (∀ b, b ∈ t.store.free ↔ b ∈ s.store.free ∨ b ∈ r.listedBlocks) ∧
        t.node r.node = { s.node r.node with streams := (s.node r.node).streams - 1 } ∧
        t.arbiter = { s.arbiter with waiting := rest } ∧
        t.ports = (s.answered c rest .ok [byte h.val, 0, if r.amendment = none then 0 else 1]).ports) ∧
      (s.recordInFlight h = true →
        t.record h = some { r with state := .closing, amendment := none } ∧
        (∃ u, releasedFrom s h r u ∧ t.table.load = u.table.load ∧ t.store = u.store) ∧
        t.node r.node = s.node r.node ∧ t.ports = s.ports ∧
        t.arbiter = ⟨rest, some ⟨.close h (r.amendment != none), p, c.tag, false⟩⟩)

/-! ### READ_STREAM, FIND_STREAM, POST_VALUE, RENEW_LEASES, RESTART_STREAM -/

/-- Six parameters as a READ_STREAM result lays them out (R187). -/
def paramBytes (q : Params) : List Byte :=
  [byte q.period, byte q.phase, byte q.len, byte q.retryLimit, byte (q.missLimit.getD 0)] ++ be16 (q.lease.getD 0)

/-- The body of a READ_STREAM result, field by field (R187). -/
def streamReport (s : State) (h : Handle) (r : StreamRecord) : List Byte :=
  [byte h.val, if r.owner = .a then 0 else 1, byte (r.node.val + 1), byte r.channel,
    if r.direction = .collect then 0 else 1, byte (streamStateCode r.state)] ++
  paramBytes r.params ++ be16 (r.leaseRemaining.getD 0) ++
  [if r.seqBit then 1 else 0, if r.resync then 1 else 0] ++
  be16 r.counters.served ++ be16 r.counters.missed ++ be16 r.counters.consecutive ++ be16 r.counters.duplicates ++
  be16 r.counters.superseded ++
  (match r.amendment with
   | some am => [1] ++ paramBytes am.params ++ [if am.blocks = none then 0 else 1]
   | none => List.replicate 9 0) ++
  match r.direction, r.sample, r.current with
  | .collect, some i, _ =>
    [1] ++ be16 i.cycle ++ be16 i.age ++
      (valueAddrs r.blocks r.publishedHalf r.params.len).map (Memory.read s.store.mem)
  | .collect, none, _ => [0, 0, 0, 0, 0]
  | .deliver, _, some accepted =>
    [1, if accepted then 1 else 0, if r.posted then 1 else 0] ++
      (valueAddrs r.blocks r.currentHalf r.params.len).map (Memory.read s.store.mem)
  | .deliver, _, none => [0, 0, if r.posted then 1 else 0]

/-- READ_STREAM returns the whole record and its values; with the clear flag, from the owner, the counters are set to
0 after they were reported, and from the other port it is refused NOT_OWNER. A body of another form is refused
BAD_ARGUMENT and then a handle that names no live record NO_SUCH. Nothing else changes (R167, R171, R186, R187). -/
def Obligations.ReadStream : Prop :=
  ∀ p (s : State) c rest, s.IsNext p .readStream c rest →
    (c.body.length ≠ 2 → exec (.readStream p) s = .next (s.answered c rest .badArgument [])) ∧
    ∀ b flag, c.body = [b, flag] →
      (1 < flag.toNat → exec (.readStream p) s = .next (s.answered c rest .badArgument [])) ∧
      (flag.toNat ≤ 1 → (∀ h : Handle, h.val = b.toNat → s.record h = none) →
        exec (.readStream p) s = .next (s.answered c rest .noSuch [])) ∧
      ∀ (h : Handle) r, b.toNat = h.val → s.record h = some r →
        (flag = 0 → exec (.readStream p) s = .next (s.answered c rest .ok (streamReport s h r))) ∧
        (flag = 1 → r.owner ≠ p → exec (.readStream p) s = .next (s.answered c rest .notOwner [])) ∧
        (flag = 1 → r.owner = p → exec (.readStream p) s = .next
          { s.answered c rest .ok (streamReport s h r) with
            table := { s.table with
              records := s.table.records.set h.val (some { r with counters := ⟨0, 0, 0, 0, 0⟩ }) h.isLt } })

/-- FIND_STREAM answers the handle, owner and state of the live record that holds the key, CLOSING included, and
NO_SUCH when none holds it; a body of another form and a key outside its ranges are refused BAD_ARGUMENT; it changes
nothing (R5, R167, R171, R186). -/
def Obligations.FindStream : Prop :=
  ∀ p (s : State) c rest, s.KeysDistinct → s.IsNext p .findStream c rest →
    (c.body.length ≠ 3 → exec (.findStream p) s = .next (s.answered c rest .badArgument [])) ∧
    ∀ nd ch di, c.body = [nd, ch, di] →
      (nd.toNat < 1 ∨ 62 < nd.toNat ∨ 15 < ch.toNat ∨ 1 < di.toNat →
        exec (.findStream p) s = .next (s.answered c rest .badArgument [])) ∧
      ∀ (n : Node) d, nd.toNat = n.val + 1 → ch.toNat ≤ 15 → (di = 0 ∧ d = .collect ∨ di = 1 ∧ d = .deliver) →
        (∀ h r, s.record h = some r → r.node = n → r.channel = ch.toNat → r.direction = d →
          exec (.findStream p) s = .next (s.answered c rest .ok
            [byte h.val, if r.owner = .a then 0 else 1, byte (streamStateCode r.state)])) ∧
        (keyFree s n ch.toNat d → exec (.findStream p) s = .next (s.answered c rest .noSuch []))

/-- Where byte `i` of a value lies: in the block at place ⌊i/32⌋ of the half, at offset i modulo 32 (R47). -/
def byteAddress (blocks : List Block) (half : Half) (i : Nat) : Option Nat :=
  let first := match half with
    | .first => 0
    | .second => blocks.length / 2
  (blocks[first + i / 32]?).map fun b => 32 * b.val + i % 32

/-- POST_VALUE on a DELIVER record writes the value into the half that is not current, marks it posted, counts a value
it replaces, and leaves the current delivery and every other byte alone (R47, R52, R55). -/
def Obligations.PostValue : Prop :=
  ∀ p (s : State) c rest b value h r, s.PoolTrue → s.store.mem.wf = true → s.IsNext p .postValue c rest →
    c.body = b :: value → b.toNat = h.val →
    s.record h = some r → r.owner = p → r.state ≠ .closing →
    (r.direction = .collect → exec (.postValue p) s = .next (s.answered c rest .wrongState [])) ∧
    (r.direction = .deliver → value.length ≠ r.params.len →
      exec (.postValue p) s = .next (s.answered c rest .badArgument [])) ∧
    (r.direction = .deliver → value.length = r.params.len → ∃ mem,
      exec (.postValue p) s = .next
        { s.answered c rest .ok [if r.posted then 1 else 0] with
          store := { s.store with mem := mem }
          table := { s.table with
            records := s.table.records.set h.val
              (some { r with
                posted := true
                counters := { r.counters with
                  superseded := if r.posted then min (r.counters.superseded + 1) 65535 else r.counters.superseded } })
              h.isLt } } ∧
      mem.wf = true ∧
      (∀ i v, value[i]? = some v → ∃ a, byteAddress r.blocks r.currentHalf.other i = some a ∧ mem.read a = v) ∧
      ∀ a, (∀ i, i < value.length → byteAddress r.blocks r.currentHalf.other i ≠ some a) →
        mem.read a = s.store.mem.read a)

/-- RENEW_LEASES sets the lease remaining of every leased record of the sending port that is not CLOSING to its lease,
and answers how many it renewed; nothing else changes (R18). That the number takes one byte is the model's choice (log
entry 31). -/
def Obligations.RenewLeases : Prop :=
  ∀ p (s : State) c rest, s.IsNext p .renewLeases c rest →
    let reached := fun r : StreamRecord => decide (r.owner = p ∧ r.params.lease ≠ none ∧ r.state ≠ .closing)
    (c.body ≠ [] → exec (.renewLeases p) s = .next (s.answered c rest .badArgument [])) ∧
    (c.body = [] → ∃ t, exec (.renewLeases p) s = .next t ∧
      t = { s.answered c rest .ok [byte ((List.finRange 64).countP fun h => (s.record h).any reached)] with
            table := { s.table with records := t.table.records } } ∧
      ∀ h, t.record h = (s.record h).map fun r => if reached r then { r with leaseRemaining := r.params.lease } else r)

/-- RESTART_STREAM returns a FAULTED record to service, ACTIVE or, while its node is LOST, SUSPENDED, with sequence bit
0 and resync pending; on any other state it is refused WRONG_STATE, after NO_SUCH and NOT_OWNER. It touches no list and
raises nothing (R11). -/
def Obligations.RestartStream : Prop :=
  ∀ p (s : State) c rest b, s.IsNext p .restartStream c rest → c.body = [b] →
    ((∀ h : Handle, h.val = b.toNat → s.record h = none) →
      exec (.restartStream p) s = .next (s.answered c rest .noSuch [])) ∧
    ∀ (h : Handle) r, h.val = b.toNat → s.record h = some r →
      (r.owner ≠ p → exec (.restartStream p) s = .next (s.answered c rest .notOwner [])) ∧
      (r.owner = p → r.state ≠ .faulted → exec (.restartStream p) s = .next (s.answered c rest .wrongState [])) ∧
      (r.owner = p → r.state = .faulted →
        let lost := (s.node r.node).state = .lost
        exec (.restartStream p) s = .next
          { s.answered c rest .ok [if lost then 1 else 0] with
            table := { s.table with
              records := s.table.records.set h.val
                (some { r with state := if lost then .suspended else .active, seqBit := false, resync := true })
                h.isLt } })

/-! ### The request commands (R58, R131, R140, R141, R174, R175) -/

/-- SEND_REQUEST takes the lowest FREE id, fills the record, puts it at the tail of the queue and writes the write data
at the start of the id's area; with no id FREE it is refused QUEUE_FULL, and before that BAD_ARGUMENT for its form, its
kind, a node, a length or write data outside their ranges (R58, R131, R167, R174). -/
def Obligations.SendRequest : Prop :=
  ∀ p (s : State) c rest, s.IsNext p .sendRequest c rest →
    (c.body.length < 6 → exec (.sendRequest p) s = .next (s.answered c rest .badArgument [])) ∧
    ∀ k nd p1 p0 l1 l0 data, c.body = k :: nd :: p1 :: p0 :: l1 :: l0 :: data →
      (1 < k.toNat ∨ nd.toNat < 1 ∨ 62 < nd.toNat ∨ word16 l1 l0 < 1 ∨ 256 < word16 l1 l0 ∨
          k = 0 ∧ data ≠ [] ∨ k = 1 ∧ data.length ≠ word16 l1 l0 →
        exec (.sendRequest p) s = .next (s.answered c rest .badArgument [])) ∧
      ∀ kind (n : Node), s.store.mem.wf = true →
        (k = 0 ∧ kind = ReqKind.read ∧ data = [] ∨ k = 1 ∧ kind = ReqKind.write ∧ data.length = word16 l1 l0) →
        nd.toNat = n.val + 1 → 1 ≤ word16 l1 l0 → word16 l1 l0 ≤ 256 →
        ((∀ j, s.request j ≠ none) → exec (.sendRequest p) s = .next (s.answered c rest .queueFull [])) ∧
        ∀ id, s.request id = none → (∀ j, j < id → s.request j ≠ none) → ∃ mem,
          exec (.sendRequest p) s = .next
            { s.answered c rest .ok [byte id.val] with
              acyclic := { s.acyclic with
                requests := s.acyclic.requests.set id.val
                  (some ⟨.queued, p, kind, n, word16 p1 p0, word16 l1 l0, 0, none, 0, 0⟩) id.isLt
                queue := s.acyclic.queue ++ [id] }
              store := { s.store with mem := mem } } ∧
          mem.wf = true ∧
          (∀ i v, data[i]? = some v → mem.read (32 * (320 + 8 * id.val) + i) = v) ∧
          ∀ a, (∀ i, i < data.length → a ≠ 32 * (320 + 8 * id.val) + i) → mem.read a = s.store.mem.read a

/-- The refusals of a command that names a request id, before NOT_OWNER: BAD_ARGUMENT for a body of another form and
for an id outside 0..7, and then NO_SUCH for a FREE id; they change nothing (R140, R141, R167). -/
def idRefusals (i : Instr) (s : State) (c : Command) (rest : List Command) : Prop :=
  (c.body.length ≠ 1 → exec i s = .next (s.answered c rest .badArgument [])) ∧
  ∀ b, c.body = [b] →
    (7 < b.toNat → exec i s = .next (s.answered c rest .badArgument [])) ∧
    ∀ id : ReqId, b.toNat = id.val → s.request id = none → exec i s = .next (s.answered c rest .noSuch [])

/-- FETCH_REQUEST of a DONE or FAILED request answers what R140 lists, with the bytes below progress of a PARAM_READ,
and frees the record; of any other it answers NOT_READY with the state, the progress and the place in the queue and
changes nothing; a wrong form or id is refused BAD_ARGUMENT, a FREE id NO_SUCH and the other port NOT_OWNER (R140, R167,
R175). -/
def Obligations.FetchRequest : Prop :=
  ∀ p (s : State) c rest, s.QueueTrue → s.IsNext p .fetchRequest c rest →
    idRefusals (.fetchRequest p) s c rest ∧
    ∀ b (id : ReqId) q, c.body = [b] → b.toNat = id.val → s.request id = some q →
      (q.owner ≠ p → exec (.fetchRequest p) s = .next (s.answered c rest .notOwner [])) ∧
      (q.owner = p → q.state ≠ .done → q.state ≠ .failed →
        exec (.fetchRequest p) s = .next (s.answered c rest .notReady
          ([byte (reqStateCode q.state)] ++ be16 q.progress ++
            [if q.state = .cancelling then 0 else byte (s.acyclic.queue.idxOf id + 1)]))) ∧
      (q.owner = p → q.state = .done ∨ q.state = .failed →
        exec (.fetchRequest p) s = .next
          { s.answered c rest .ok
              ([if q.kind = .read then 0 else 1, byte (reqStateCode q.state), byte (failReasonCode q.reason)] ++
                be16 q.length ++ be16 q.progress ++
                if q.kind = .read then
                  (List.range q.progress).map fun i => s.store.mem.read (32 * (320 + 8 * id.val) + i)
                else []) with
            acyclic := { s.acyclic with
              requests := s.acyclic.requests.set id.val none id.isLt
              deferred := s.acyclic.deferred.filter (· ≠ id) } })

/-- CANCEL_REQUEST frees the record at once, out of the queue, unless its piece is in flight: then it becomes
CANCELLING and the command is parked. An acyclic phase with nothing left to serve ends at that moment (R133; log entry
12). A CANCELLING request is refused WRONG_STATE, a wrong form or id BAD_ARGUMENT, a FREE id NO_SUCH and the other
port NOT_OWNER (R141, R162, R167, R175). -/
def Obligations.CancelRequest : Prop :=
  ∀ p (s : State) c rest, s.EntriesOnce → s.IsNext p .cancelRequest c rest →
    idRefusals (.cancelRequest p) s c rest ∧
    ∀ b (id : ReqId) q, c.body = [b] → b.toNat = id.val → s.request id = some q →
      (q.owner ≠ p → exec (.cancelRequest p) s = .next (s.answered c rest .notOwner [])) ∧
      (q.owner = p → q.state = .cancelling → exec (.cancelRequest p) s = .next (s.answered c rest .wrongState [])) ∧
      (q.owner = p → q.state ≠ .cancelling → (q.state ≠ .active ∨ s.requestInFlight id = false) →
        exec (.cancelRequest p) s = .next (movedOn
          { s.answered c rest .ok ([byte (reqStateCode q.state)] ++ be16 q.progress) with
            acyclic := outOfQueue s id none })) ∧
      (q.owner = p → q.state = .active → s.requestInFlight id = true →
        exec (.cancelRequest p) s = .next
          { s with
            arbiter := ⟨rest, some ⟨.cancel id, p, c.tag, false⟩⟩
            acyclic := outOfQueue s id (some { q with state := .cancelling }) })

/-! ### The roster commands (R116, R125, R127, R176) -/

/-- READ_NODE answers the entry as it stands and the address's place on the probe list, and changes nothing; a body of
another form and an address outside 1..62 are refused BAD_ARGUMENT (R116, R167). That the failures and the stream count
take one byte each, and the identity's fields the bytes they have in a probe's reply, is the model's choice (log entry
31). -/
def Obligations.ReadNode : Prop :=
  ∀ p (s : State) c rest, s.IsNext p .readNode c rest →
    (c.body.length ≠ 1 → exec (.readNode p) s = .next (s.answered c rest .badArgument [])) ∧
    ∀ b, c.body = [b] →
      (b.toNat < 1 ∨ 62 < b.toNat → exec (.readNode p) s = .next (s.answered c rest .badArgument [])) ∧
      ∀ n : Node, b.toNat = n.val + 1 →
        exec (.readNode p) s = .next (s.answered c rest .ok
          ([byte (nodeStateCode (s.node n).state)] ++
            (match (s.node n).identity with
             | some i => [1] ++ be16 i.typeCode ++ [byte i.channels, byte i.largest]
             | none => [0, 0, 0, 0, 0]) ++
            [byte (s.node n).failures, byte (s.node n).streams,
              if n ∈ s.acyclic.probeList then byte (s.acyclic.probeList.idxOf n + 1) else 0]))

/-- SCAN_NODES appends every UNKNOWN or ABSENT address that is not listed, in ascending order, sets scan pending when
it appends any, and answers how many it appended and how many are listed; with a body it is refused BAD_ARGUMENT
(R125, R127, R167). That the two numbers take one byte each is the model's choice (log entry 31). -/
def Obligations.ScanNodes : Prop :=
  ∀ p (s : State) c rest, s.IsNext p .scanNodes c rest →
    let new := (List.finRange 62).filter fun n =>
      decide (((s.node n).state = .unknown ∨ (s.node n).state = .absent) ∧ n ∉ s.acyclic.probeList)
    (c.body ≠ [] → exec (.scanNodes p) s = .next (s.answered c rest .badArgument [])) ∧
    (c.body = [] → exec (.scanNodes p) s = .next
      { s.answered c rest .ok [byte new.length, byte (s.acyclic.probeList.length + new.length)] with
        acyclic := { s.acyclic with
          probeList := s.acyclic.probeList ++ new
          scanPending := s.acyclic.scanPending || decide (new ≠ []) } })

/-! ### The trunk commands (R36 to R38, R60 to R64, R75, R77, R177 to R179) -/

/-- A reason merged into the GLOBAL entries of both ports (R148). -/
def raisedGlobally (s : State) (r : Reason) : PerPort AttnSet :=
  ⟨s.attn.a.set 0 (s.attn.a[0] ||| r.bit), s.attn.b.set 0 (s.attn.b[0] ||| r.bit)⟩

/-- The trunk restart: entry to SYNCING with every sequence bit 0 and resync pending, every failure count 0 and no lists
(R62). -/
def restarted (s : State) : State :=
  { s with
    trunk := { s.trunk with state := .syncing, cycle := 0, marksSent := 0, haltRequested := false, faultCause := none,
                            clock := 0, phase := .idle, guard := false }
    table := { s.table with
      records := s.table.records.map fun o => o.map fun r => { r with seqBit := false, resync := true } }
    roster := s.roster.map fun e => { e with failures := 0 }
    sched := ⟨[], [], []⟩ }

/-- START_TRUNK in a stopped state with LFAULT deasserted restarts the trunk and begins the first restart mark, which
says that 3 follow; with LFAULT asserted it is refused LINE_FAULT, and in SYNCING, RUNNING and DRAINING WRONG_STATE
(R61 to R63); with a body it is refused BAD_ARGUMENT first (R167). That a busy line faults the trunk at once, the result
carrying SYNCING all the same, is log entry 11; the level of LFAULT as an operand, kept in the pin field, is log entry
9. -/
def Obligations.StartTrunk : Prop :=
  ∀ p lfault (s : State) c rest, s.IsNext p .startTrunk c rest →
    (c.body ≠ [] → exec (.startTrunk p lfault) s = .next (s.answered c rest .badArgument [])) ∧
    (c.body = [] → s.trunk.state = .syncing ∨ s.trunk.state = .running ∨ s.trunk.state = .draining →
      exec (.startTrunk p lfault) s = .next (s.answered c rest .wrongState [])) ∧
    (c.body = [] → s.trunk.state = .off ∨ s.trunk.state = .halted ∨ s.trunk.state = .faulted →
      s.trunk.staged = none →
      (lfault = true → exec (.startTrunk p lfault) s = .next
        { s.answered c rest .lineFault [] with pins := { s.pins with lfault := true } }) ∧
      (lfault = false → s.lineBusy = false → exec (.startTrunk p lfault) s = .next
        (let u := restarted s
         { u.answered c rest .ok [1] with
           trunk := { u.trunk with marksSent := 1, timer := some s.trunk.applied.c }
           pins := { s.pins with lfault := false
                                 tx := some (restartMarkFrame 3 s.trunk.applied.c s.trunk.applied.w) } })) ∧
      (lfault = false → s.lineBusy = true → s.engine.state.inFlight = none → exec (.startTrunk p lfault) s = .next
        (let u := restarted s
         { u.answered c rest .ok [1] with
           trunk := { u.trunk with state := .faulted, faultCause := some .lineJammed, timer := none }
           engine := { s.engine with state := .idle }
           attn := raisedGlobally s .trunkFault
           pins := { s.pins with lfault := false, tx := none } })))

/-- The trunk configuration with a staged C and A, if any, become the applied ones (R76). -/
def afterStaging (u : CycleUnit) : CycleUnit :=
  match u.staged with
  | none => u
  | some g => { u with applied := { u.applied with c := g.c, a := g.a }, staged := none }

/-- The attention sets with CONFIG_APPLIED raised to both ports when a configuration was staged, and then another global
reason (R76, R148). -/
def raisedAfterStaged (s : State) (r : Option Reason) : PerPort AttnSet :=
  let bits := (if s.trunk.staged = none then 0 else Reason.configApplied.bit) |||
    match r with
    | some r => r.bit
    | none => 0
  ⟨s.attn.a.set 0 (s.attn.a[0] ||| bits), s.attn.b.set 0 (s.attn.b[0] ||| bits)⟩

/-- Entry to HALTED: the timer stops, halt requested is no, a staged configuration is applied and TRUNK_HALTED is raised
to both ports; nothing else changes (R71). -/
def halted (s : State) : State :=
  { s with
    trunk := { afterStaging s.trunk with
      state := .halted, haltRequested := false, timer := none, phase := .idle, guard := false }
    attn := raisedAfterStaged s (some .trunkHalted) }

/-- HALT_TRUNK drains a RUNNING trunk, halts a SYNCING one at once between marks or, with a mark in transmission,
records the request; in every other state it is refused WRONG_STATE, and with a body BAD_ARGUMENT first. The result says
what it left (R64, R167, R186). -/
def Obligations.HaltTrunk : Prop :=
  ∀ p (s : State) c rest, s.IsNext p .haltTrunk c rest →
    (c.body ≠ [] → exec (.haltTrunk p) s = .next (s.answered c rest .badArgument [])) ∧
    (c.body = [] → s.trunk.state = .running → exec (.haltTrunk p) s = .next
      { s.answered c rest .ok [3, if s.trunk.haltRequested then 1 else 0] with
        trunk := { s.trunk with state := .draining } }) ∧
    (c.body = [] → s.trunk.state = .syncing → s.pins.tx ≠ none → exec (.haltTrunk p) s = .next
      { s.answered c rest .ok [1, 1] with trunk := { s.trunk with haltRequested := true } }) ∧
    (c.body = [] → s.trunk.state = .syncing → s.pins.tx = none → exec (.haltTrunk p) s = .next
      ((halted s).answered c rest .ok [4, 0])) ∧
    (c.body = [] →
      s.trunk.state = .off ∨ s.trunk.state = .draining ∨ s.trunk.state = .halted ∨ s.trunk.state = .faulted →
      exec (.haltTrunk p) s = .next (s.answered c rest .wrongState []))

/-- The candidate C and A (R37). -/
def candidateOf (g : ConfigArgs) (u : CycleUnit) : Staged :=
  ⟨g.c.getD (match u.staged with | some t => t.c | none => u.applied.c),
    g.a.getD (match u.staged with | some t => t.a | none => u.applied.a)⟩

/-- The number of charges at an index, applied and pending alike (R38). -/
def chargesAt (s : State) (k : Nat) : Nat :=
  ((List.finRange 64).map fun h : Handle =>
    match s.record h with
    | none => 0
    | some r => (if k % r.params.period = r.params.phase then 1 else 0) +
      match r.amendment with
      | none => 0
      | some am => if k % am.params.period = am.params.phase then 1 else 0).sum

/-- The Load Map recomputed for a new W: each entry plus (new W − applied W) for every charge at it (R38). -/
def recomputedFor (s : State) (w : Nat) (load : Vector Nat 128) : Prop :=
  ∀ k : Fin 128, load[k.val] + chargesAt s k.val * s.trunk.applied.w = s.table.load[k.val] + chargesAt s k.val * w

/-- SET_CONFIG while the trunk is stopped: a change of C or A is tested against the whole map, a change of W by
recomputing it against the limit that will stand; an admitted command applies every named field at once, replaces the
map when W is named, raises CONFIG_APPLIED to both ports, and answers "applied" with the budgets (R36 to R38, R75).
That both tests apply when both kinds of field are named is log entry 14. -/
def Obligations.SetConfigStopped : Prop :=
  ∀ p (s : State) c rest g load, s.LoadTrue → s.IsNext p .setConfig c rest → readSetConfig c.body = some g →
    s.stopped = true →
    let k := candidateOf g s.trunk
    let u : TrunkConfig := ⟨k.c, k.a, g.w.getD s.trunk.applied.w, g.threshold.getD s.trunk.applied.threshold,
      g.interval.getD s.trunk.applied.interval⟩
    recomputedFor s u.w load →
    let fits := ((g.c = none ∧ g.a = none) ∨ ∀ i : Fin 128, s.table.load[i.val] ≤ k.c - 18 - k.a) ∧
      (g.w = none ∨ ∀ i : Fin 128, load[i.val] ≤ k.c - 18 - k.a)
    (g.inRange = false ∨ k.c < 18 + k.a → exec (.setConfig p) s = .next (s.answered c rest .badArgument [])) ∧
    (g.inRange = true → 18 + k.a ≤ k.c → ¬fits → exec (.setConfig p) s = .next (s.answered c rest .noBudget [])) ∧
    (g.inRange = true → 18 + k.a ≤ k.c → fits → exec (.setConfig p) s = .next
      { s.answered c rest .ok ([0] ++ be16 (k.c - 18 - k.a) ++ [0, 0, 0]) with
        trunk := { s.trunk with applied := u }
        table := { s.table with load := load }
        attn := raisedGlobally s .configApplied })

/-- SET_CONFIG in SYNCING, RUNNING and DRAINING: W, the threshold and the interval are refused WRONG_STATE; an
admitted C or A is staged, replaces what was staged, and changes nothing else. In every trunk state a body that fails
the form check is refused BAD_ARGUMENT (R36, R37, R75, R167). -/
def Obligations.SetConfigStages : Prop :=
  (∀ p (s : State) c rest, s.IsNext p .setConfig c rest → readSetConfig c.body = none →
    exec (.setConfig p) s = .next (s.answered c rest .badArgument [])) ∧
  ∀ p (s : State) c rest g, s.IsNext p .setConfig c rest → readSetConfig c.body = some g → s.stopped = false →
    let k := candidateOf g s.trunk
    let fits := ∀ i : Fin 128, s.table.load[i.val] ≤ k.c - 18 - k.a
    let stoppedOnly := g.w ≠ none ∨ g.threshold ≠ none ∨ g.interval ≠ none
    (g.inRange = false ∨ k.c < 18 + k.a → exec (.setConfig p) s = .next (s.answered c rest .badArgument [])) ∧
    (g.inRange = true → 18 + k.a ≤ k.c → stoppedOnly →
      exec (.setConfig p) s = .next (s.answered c rest .wrongState [])) ∧
    (g.inRange = true → 18 + k.a ≤ k.c → ¬stoppedOnly → ¬fits →
      exec (.setConfig p) s = .next (s.answered c rest .noBudget [])) ∧
    (g.inRange = true → 18 + k.a ≤ k.c → ¬stoppedOnly → fits → exec (.setConfig p) s = .next
      { s.answered c rest .ok
          ([1] ++ be16 (s.trunk.applied.c - 18 - s.trunk.applied.a) ++ [1] ++ be16 (k.c - 18 - k.a)) with
        trunk := { s.trunk with staged := some k } })

/-- READ_LOAD answers the applied budget, the staged presence and budget, and the entries asked for, continuing from
127 to 0; READ_CONFIG answers the whole of R179 as it stands; a body of another form or out of range is refused
BAD_ARGUMENT; neither changes anything (R40, R77, R167, R179, R186). The
place of the staged presence byte in READ_CONFIG is log entry 15. -/
def Obligations.ReadLoadAndConfig : Prop :=
  (∀ p (s : State) c rest, s.IsNext p .readLoad c rest → c.body.length ≠ 2 →
    exec (.readLoad p) s = .next (s.answered c rest .badArgument [])) ∧
  (∀ p (s : State) c rest, s.IsNext p .readConfig c rest → c.body ≠ [] →
    exec (.readConfig p) s = .next (s.answered c rest .badArgument [])) ∧
  (∀ p (s : State) c rest first count, s.IsNext p .readLoad c rest → c.body = [first, count] →
    (127 < first.toNat ∨ count.toNat < 1 ∨ 64 < count.toNat →
      exec (.readLoad p) s = .next (s.answered c rest .badArgument [])) ∧
    (first.toNat ≤ 127 → 1 ≤ count.toNat → count.toNat ≤ 64 →
      exec (.readLoad p) s = .next (s.answered c rest .ok
        (be16 (s.trunk.applied.c - 18 - s.trunk.applied.a) ++
          (match s.trunk.staged with
           | some g => [1] ++ be16 (g.c - 18 - g.a)
           | none => [0, 0, 0]) ++
          (List.range count.toNat).flatMap fun i =>
            be16 ((s.table.load.toList[(first.toNat + i) % 128]?).getD 0))))) ∧
  ∀ p (s : State) c rest largest, s.IsNext p .readConfig c rest → c.body = [] →
    (∀ k : Fin 128, s.table.load[k.val] ≤ largest) → (∃ k : Fin 128, s.table.load[k.val] = largest) →
    exec (.readConfig p) s = .next (s.answered c rest .ok
      (be16 s.trunk.applied.c ++ be16 s.trunk.applied.a ++
        [byte s.trunk.applied.w, byte s.trunk.applied.threshold, byte s.trunk.applied.interval] ++
        be16 (s.trunk.applied.c - 18 - s.trunk.applied.a) ++
        (match s.trunk.staged with
         | some g => [1] ++ be16 g.c ++ be16 g.a ++ be16 (g.c - 18 - g.a)
         | none => List.replicate 7 0) ++
        [byte (trunkStateCode s.trunk.state), byte (faultCauseCode s.trunk.faultCause)] ++ be16 s.trunk.cycle.toNat ++
        [byte ((List.finRange 64).countP fun h => (s.record h).isNone)] ++ be16 s.store.free.length ++
        [byte ((List.finRange 8).countP fun id => (s.request id).isNone)] ++ be16 largest))

/-! ### Attention and the command without an owner (R147, R149, R151, R161) -/

/-- A source is read by a READ_ATTN: it has an entry, and fewer than 16 sources before it have one (R151). -/
def readFirst (t : AttnSet) (i : Fin 73) : Bool :=
  decide (t[i.val] ≠ 0 ∧ (List.finRange 73).countP (fun j => decide (j < i ∧ t[j.val] ≠ 0)) < 16)

/-- READ_ATTN returns the first 16 entries of its port's set in source order, each with all its reasons, removes exactly
those, and answers how many remain; the other port's set and every other part of the machine stay as they are; with a
body it is refused BAD_ARGUMENT (R151, R167). -/
def Obligations.ReadAttn : Prop :=
  ∀ p (s : State) c rest, s.IsNext p .readAttn c rest →
    let t := s.attn.get p
    let first := (List.finRange 73).filter (readFirst t)
    let left := Vector.ofFn fun i => if readFirst t i then 0 else t[i.val]
    (c.body ≠ [] → exec (.readAttn p) s = .next (s.answered c rest .badArgument [])) ∧
    (c.body = [] → exec (.readAttn p) s = .next
      { s.answered c rest .ok
          ([byte first.length, byte ((List.finRange 73).countP fun i => decide (left[i.val] ≠ 0))] ++
            first.flatMap fun i => [byte i.val] ++ be16 t[i.val].toNat) with
        attn := s.attn.put p left })

/-- SET_ATTN_MASK replaces its port's mask with the fourteen enables and answers the mask as set; bits 14 and 15, and a
body of other than two bytes, fail the form check. The other port's mask does not change (R149, R167, R186). -/
def Obligations.SetAttnMask : Prop :=
  (∀ p (s : State) c rest, s.IsNext p .setAttnMask c rest → c.body.length ≠ 2 →
    exec (.setAttnMask p) s = .next (s.answered c rest .badArgument [])) ∧
  ∀ p (s : State) c rest m1 m0, s.IsNext p .setAttnMask c rest → c.body = [m1, m0] →
    (64 ≤ m1.toNat → exec (.setAttnMask p) s = .next (s.answered c rest .badArgument [])) ∧
    (m1.toNat < 64 → ∃ mask : ReasonSet, mask.toNat = m1.toNat * 256 + m0.toNat ∧
      exec (.setAttnMask p) s = .next
        { s.answered c rest .ok [m1, m0] with
          ports := s.ports.put p { s.ports.get p with state := .resultReady (resultFrame c.tag .ok [m1, m0]),
                                                      mask := mask } })

/-- A command whose code names no command is answered BAD_COMMAND with its tag and an empty body and changes nothing
else; no command with a defined code is ever answered BAD_COMMAND (R161). -/
def Obligations.BadCommand : Prop :=
  (∀ p (s : State) c rest, s.arbiter.waiting = c :: rest → c.port = p → (c.code.toNat < 1 ∨ 20 < c.code.toNat) →
    exec (.badCommand p) s = .next (s.answered c rest .badCommand [])) ∧
  ∀ i (s : State) c rest t bytes, s.arbiter.waiting = c :: rest → 1 ≤ c.code.toNat → c.code.toNat ≤ 20 →
    exec i s = .next t → (t.ports.get c.port).state = .resultReady (resultFrame c.tag .badCommand bytes) →
    (s.ports.get c.port).state = .resultReady (resultFrame c.tag .badCommand bytes)

/-! ### The host ports (R150, R154 to R159, R163 to R166) -/

/-- The attention part of a port: some entry has a reason whose enable is yes (R150). -/
def attentionPart (s : State) (p : Port) : Prop :=
  ∃ i : Fin 73, (s.attn.get p)[i.val] &&& (s.ports.get p).mask ≠ 0

/-- The port with its part of the state replaced. -/
def withPort (s : State) (p : Port) (h : HostPort) : State := { s with ports := s.ports.put p h }

/-- The levels of SDO over a byte: most significant bit first, from the edge that begins the byte (R154, R166). -/
def shiftsOut (s : State) (p : Port) (k : Nat) (b : Byte) : Prop :=
  ∀ n, n < 8 → s.sdo p (8 * k + n) = some (b.getLsbD (7 - n))

/-- SEL falling begins a transaction and captures the status byte of Table 12-5, which SDO shifts out from then on,
followed by fill bytes; while SEL is high SDO is not driven. The ATTN line is asserted while the attention part is, or
a result waits. SDI brings whole bytes, most significant bit first, and a byte left incomplete is disregarded (R150,
R154, R155, R166, R185). That the fill bytes follow whatever the kind byte, one of no kind included, is the model's
choice (log entry 32). -/
def Obligations.SelFalls : Prop :=
  (∀ p (s : State), (s.ports.get p).txn = .high → (∀ n, s.sdo p n = none) ∧ ∃ status : Byte,
    let t := withPort s p { s.ports.get p with txn := .active status none }
    exec (.selFalls p) s = .next t ∧ shiftsOut t p 0 status ∧ (∀ k, shiftsOut t p (k + 1) 0x00) ∧
    status.getLsbD 7 = true ∧ status.getLsbD 6 = false ∧
    (status.getLsbD 5 = true ↔ ∃ f, (s.ports.get p).state = .resultReady f) ∧
    (status.getLsbD 4 = true ↔ (s.ports.get p).state = .working) ∧
    (status.getLsbD 3 = true ↔ attentionPart s p) ∧
    status.getLsbD 2 = (s.ports.get p).dropped ∧ status.getLsbD 1 = (s.ports.get p).lost ∧
    status.getLsbD 0 = (s.ports.get p).frameError ∧
    (s.attnLine p = true ↔ attentionPart s p ∨ ∃ f, (s.ports.get p).state = .resultReady f)) ∧
  ∀ (bytes : List Byte) (part : List Bool), part.length < 8 →
    sampledBytes ((bytes.flatMap fun b => (List.range 8).map fun i => b.getLsbD (7 - i)) ++ part) = bytes

/-- A RESULT transaction shows the frame in the response holder, fixed when the kind byte is whole, or in IDLE and
WORKING the empty response: SDO shifts it out after the status byte, and fill bytes beyond it. Taken whole, it empties
the holder and clears the flags; cut short, it changes nothing, and neither does an empty response, in whatever state
it finds the port when SEL rises: a result composed while it was shown, which made the port RESULT_READY, waits for
the next RESULT transaction (R154, R159, R166). The transaction must have begun (R154). -/
def Obligations.ResultTransaction : Prop :=
  ∀ p (s : State) status, (s.ports.get p).txn = .active status none →
    let port := s.ports.get p
    let after := withPort s p { port with txn := .high }
    let shown := fun held frame => withPort s p { port with txn := .active status (some (held, frame)) }
    (∀ f, port.state = .resultReady f → exec (.kindByteWhole p) s = .next (shown true f) ∧
      ∀ n, exec (.resultTransaction p n) (shown true f) = .next
        (if f.length ≤ n then
          withPort s p { port with state := .idle, dropped := false, lost := false, frameError := false, txn := .high }
        else after)) ∧
    (port.state = .idle ∨ port.state = .working →
      exec (.kindByteWhole p) s = .next (shown false (withCrc [0, 1, 0, 0]))) ∧
    (∀ n, exec (.resultTransaction p n) (shown false (withCrc [0, 1, 0, 0])) = .next after) ∧
    ∀ held frame, shiftsOut (shown held frame) p 0 status ∧
      (∀ i b, frame[i]? = some b → shiftsOut (shown held frame) p (i + 1) b) ∧
      ∀ i, frame.length ≤ i → shiftsOut (shown held frame) p (i + 1) 0x00

/-- The bytes after the kind byte hold a complete and good command frame: a body length of 0..264, the body, and the CRC
over all before it; further bytes are disregarded (R154, R156). -/
def carries (sent : List Byte) (code tag : Byte) (body : List Byte) : Prop :=
  ∃ hi lo extra, word16 hi lo = body.length ∧ body.length ≤ 264 ∧
    sent = withCrc (code :: tag :: hi :: lo :: body) ++ extra

/-- A complete and good frame is taken in IDLE, taken in RESULT_READY with the result discarded and LOST set, and
dropped in WORKING with DROPPED set. Any other COMMAND frame, a transaction with no whole kind byte or a kind byte of
no kind, and a PORT_RESET with a bad confirmation set FRAME_ERROR and change nothing else. A transaction that a device
reset discarded has no effect: at the SEL rising that ends it, whatever its kind, SEL returns to high and nothing else
changes (R154, R156, R157, R163, R165). -/
def Obligations.CommandTransaction : Prop :=
  (∀ p (s : State) sent status, (s.ports.get p).txn = .active status none →
    let port := s.ports.get p
    (∀ code tag body, carries sent code tag body →
      let taken := { s.arbiter with waiting := s.arbiter.waiting ++ [⟨p, code, tag, body⟩] }
      (port.state = .idle → exec (.commandTransaction p sent) s = .next
        { withPort s p { port with state := .working, txn := .high } with arbiter := taken }) ∧
      (∀ f, port.state = .resultReady f → exec (.commandTransaction p sent) s = .next
        { withPort s p { port with state := .working, lost := true, txn := .high } with arbiter := taken }) ∧
      (port.state = .working → exec (.commandTransaction p sent) s = .next
        (withPort s p { port with dropped := true, txn := .high }))) ∧
    let notTaken := withPort s p { port with frameError := true, txn := .high }
    ((∀ code tag body, ¬carries sent code tag body) → exec (.commandTransaction p sent) s = .next notTaken) ∧
    ((sent = [] ∨ (∃ k rest, sent = k :: rest ∧
        (k ≠ 0x5A ∧ k ≠ 0xA5 ∧ k ≠ 0x3C ∨
         k = 0x5A ∧ (∀ code tag body, ¬carries rest code tag body) ∨
         k = 0x3C ∧ ∀ extra, rest ≠ 0xC3 :: 0x69 :: extra))) →
      exec (.transactionNotTaken p sent) s = .next notTaken) ∧
    ((∀ extra, sent ≠ 0xC3 :: 0x69 :: extra) → exec (.portReset p sent) s = .next notTaken)) ∧
  ∀ p (s : State) sent n, (s.ports.get p).txn = .discarded →
    let risen := withPort s p { s.ports.get p with txn := .high }
    exec (.kindByteWhole p) s = .next s ∧ exec (.commandTransaction p sent) s = .next risen ∧
    exec (.resultTransaction p n) s = .next risen ∧ exec (.portReset p sent) s = .next risen ∧
    exec (.transactionNotTaken p sent) s = .next risen

/-- A confirmed PORT_RESET ends the session: the port is IDLE with its flags clear, its mask full and its attention
set empty; its waiting command is withdrawn and its parked one an orphan; its records are retired, off the lists, and
its requests cancelled; the other port, the other records and requests, the trunk and the values stay as they are, but
that a phase left with nothing to wait for ends at that moment, RETRY with its settlement (R16, R97, R98, R106, R133,
R146, R153, R163, R164). That the phase ends in the same step is log entry 12. That the records' service entries
become EXCUSED in every phase, after the settlement and in HALTED too, where R94, R109 and R113 have entries keep
their dispositions, is the model's choice (log entry 27). -/
def Obligations.PortReset : Prop :=
  ∀ p (s : State) extra status, s.EntriesOnce → (s.ports.get p).txn = .active status none → ∃ t,
    let leaves := fun h => (s.record h).any fun r => decide (r.owner = p ∧ r.state ≠ .closing)
    let stays := fun id => (s.request id).all fun q => decide (q.owner ≠ p ∨ q.state = .cancelling)
    exec (.portReset p (0xC3 :: 0x69 :: extra)) s = .next (movedOn t) ∧
    t.ports.get p = ⟨.idle, false, false, false, BitVec.allOnes 14, .high⟩ ∧
    (∀ i : Fin 73, (t.attn.get p)[i.val] = 0) ∧
    (∀ o, o ≠ p → t.ports.get o = s.ports.get o ∧ t.attn.get o = s.attn.get o) ∧
    t.arbiter.waiting = s.arbiter.waiting.filter (fun c => c.port ≠ p) ∧
    t.arbiter.parked = s.arbiter.parked.map (fun k => if k.port = p then { k with orphan := true } else k) ∧
    (∀ h, t.record h = (s.record h).bind fun r =>
      if r.owner ≠ p ∨ r.state = .closing then some r
      else if s.recordInFlight h then some { r with state := .closing, amendment := none }
      else none) ∧
    t.sched.due = s.sched.due.filter (fun h => !leaves h) ∧ t.sched.retry = s.sched.retry.filter (fun h => !leaves h) ∧
    t.sched.entries = s.sched.entries.map (fun e =>
      if leaves e.handle = true ∧ e.disposition ≠ .served then { e with disposition := .excused } else e) ∧
    (∀ id, t.request id = (s.request id).bind fun q =>
      if q.owner ≠ p ∨ q.state = .cancelling then some q
      else if q.state = .active ∧ s.requestInFlight id = true then some { q with state := .cancelling }
      else none) ∧
    t.acyclic.queue = s.acyclic.queue.filter stays ∧ t.acyclic.deferred = s.acyclic.deferred.filter stays ∧
    t.acyclic.probeList = s.acyclic.probeList ∧ t.acyclic.scanPending = s.acyclic.scanPending ∧
    t.acyclic.probesRun = s.acyclic.probesRun ∧
    (∀ n, (t.node n).state = (s.node n).state ∧ (t.node n).identity = (s.node n).identity ∧
      (t.node n).failures = (s.node n).failures) ∧
    t.store.mem = s.store.mem ∧ t.trunk = s.trunk ∧ s.SameLine t

/-- DEVICE_RESET puts every block in its reset state, disregards a transaction whose SEL is low, and leaves the values
of the Value Store uncleared, with the payload bytes of a reply in reception placed as they arrived (R42, R48, R58,
R60, R84, R165). What a reset leaves of the input pins, the operands that say what it finds, the bytes that had
arrived, a free value, and the counter of free values are the model's choice (log entries 5, 13, 17, 22 and 30). -/
def Obligations.DeviceReset : Prop :=
  ∀ lowA lowB (s : State), ∃ u t, cutOff s u ∧ exec (.deviceReset lowA lowB) s = .next t ∧
    t.ports.a = { HostPort.reset with txn := if lowA then .discarded else .high } ∧
    t.ports.b = { HostPort.reset with txn := if lowB then .discarded else .high } ∧
    t.store.mem = u.store.mem ∧ t.pins = ⟨s.pins.lfault, s.pins.rxBusy, none⟩ ∧ t.freeIndex = u.freeIndex + 1 ∧
    t.pending = s.pending ∧
    { t with ports := State.reset.ports, store := { t.store with mem := State.reset.store.mem },
             pins := State.reset.pins, freeIndex := State.reset.freeIndex, pending := [] } = State.reset

/-! ### Faults, marks and halts (R63 to R65, R68, R70 to R74, R76, R89, R90) -/

/-- `t` is `s` after entry to FAULTED: TXEN released, the engine idle, the lists empty, the cause set, halt requested
no, the timer stopped, a staged configuration applied, TRUNK_FAULT raised to both ports; a CLOSING record or a
CANCELLING request whose exchange was in flight is freed and the parked command ended, answered unless it is an
orphan; all else is kept (R74, R90). -/
def faultEntered (s : State) (cause : FaultCause) (t : State) : Prop :=
  t.trunk = { afterStaging s.trunk with
    state := .faulted, faultCause := some cause, haltRequested := false, timer := none, phase := .idle,
    guard := false } ∧
  t.sched = ⟨[], [], []⟩ ∧ t.engine = { s.engine with state := .idle } ∧ t.pins = { s.pins with tx := none } ∧
  t.attn = raisedAfterStaged s (some .trunkFault) ∧
  (∀ h, t.record h = (s.record h).bind fun r =>
    if r.state = .closing ∧ s.recordInFlight h = true then none else some r) ∧
  (∀ id, t.request id = (s.request id).bind fun q =>
    if q.state = .cancelling ∧ s.requestInFlight id = true then none else some q) ∧
  (s.QueueTrue → t.acyclic.queue = s.acyclic.queue) ∧
  t.acyclic.probeList = s.acyclic.probeList ∧ t.acyclic.scanPending = s.acyclic.scanPending ∧
  (∀ n, (t.node n).state = (s.node n).state ∧ (t.node n).identity = (s.node n).identity ∧
    (t.node n).failures = (s.node n).failures) ∧
  ((∀ h r, s.record h = some r → r.state = .closing → s.recordInFlight h = false) →
    t.table = s.table ∧ t.store = s.store ∧ t.roster = s.roster) ∧
  t.store.mem = s.store.mem ∧ t.arbiter = { s.arbiter with parked := none } ∧
  t.freeIndex = s.freeIndex ∧ t.pending = s.pending ∧
  t.ports =
    match s.arbiter.parked with
    | none => s.ports
    | some k =>
      if k.orphan then s.ports
      else
        s.ports.put k.port { s.ports.get k.port with
          state := .resultReady (resultFrame k.tag .ok
            (match k.kind with
             | .close h dropped => [byte h.val, 1, if dropped then 1 else 0]
             | .cancel id => 2 :: be16 (((s.request id).map Request.progress).getD 0))) }

/-- LFAULT faults a SYNCING, RUNNING or DRAINING trunk at once and changes no state of a stopped one; a mark or a
drain's end that falls due on a busy line, and quieting that lasts 16 byte-times past its slot end, fault it with
LINE_JAMMED. A reply cut off has its bytes placed as they arrived, and a byte still in reception keeps the line busy
(R70, R72 to R74, R84, R87, R89, R90). The moments are those of the model's clock (log entry 4); which bytes had
arrived is a free value (log entry 13), and that the line stays busy until a row says otherwise is the model's choice
(log entry 22). -/
def Obligations.TrunkFaults : Prop :=
  ∀ s : State, s.PortsSound →
    (s.stopped = true → exec .lfaultAsserted s = .next { s with pins := { s.pins with lfault := true } }) ∧
    (s.stopped = false → ∃ u t, cutOff { s with pins := { s.pins with lfault := true } } u ∧
      exec .lfaultAsserted s = .next t ∧ faultEntered u .lfaultAsserted t) ∧
    (s.lineBusy = true →
      (s.cycleMarkDue = true → ∃ t, exec .cycleMarkDue s = .next t ∧ faultEntered s .lineJammed t) ∧
      (s.trunk.state = .syncing → s.trunk.marksSent < 4 → s.timerDue = true →
        ∃ t, exec .restartMarkDue s = .next t ∧ faultEntered s .lineJammed t) ∧
      (s.trunk.state = .draining → s.timerDue = true →
        ∃ t, exec .drainEnd s = .next t ∧ faultEntered s .lineJammed t)) ∧
    ∀ slotEnd, s.engine.state = .quieting slotEnd → s.inCycle = true → s.reaches (slotEnd + 16) = true →
      ∃ t, exec .quietingBound s = .next t ∧ faultEntered s .lineJammed t

/-- On a quiet line a restart mark begins with a staged configuration applied, says how many follow, and times the
next from its own beginning; at its end the transmitter is released, and a requested halt is carried out; a drain ends
in HALTED (R63, R64, R70, R71, R76, R183). The moments are those of the model's clock (log entry 4). -/
def Obligations.RestartMarksAndHalts : Prop :=
  ∀ s : State,
    (s.trunk.state = .syncing → s.trunk.marksSent < 4 → s.timerDue = true → s.lineBusy = false →
      let u := afterStaging s.trunk
      exec .restartMarkDue s = .next
        { s with
          trunk := { u with marksSent := u.marksSent + 1, clock := 0, timer := some u.applied.c }
          attn := raisedAfterStaged s none
          pins := { s.pins with
            tx := some (withCrc ([63, 0x01, byte (3 - u.marksSent)] ++ be16 u.applied.c ++ [byte u.applied.w])) } }) ∧
    (s.trunk.state = .syncing → s.pins.tx ≠ none →
      let u := { s with trunk := { s.trunk with clock := 8 }, pins := { s.pins with tx := none } }
      exec .restartMarkEnd s = .next (if s.trunk.haltRequested then halted u else u)) ∧
    (s.trunk.state = .draining → s.timerDue = true → s.lineBusy = false → exec .drainEnd s = .next (halted s))

/-- A cycle mark on a quiet line opens the next cycle: number, RUNNING, timer and frame; the due list holds the ACTIVE
records that fall due, by period and then by handle; LOST addresses join the probe list at the probe interval (R63,
R65, R66, R76, R94, R95, R125, R183). The moments are those of the model's clock (log entry 4). -/
def Obligations.CycleMarkOpensCycle : Prop :=
  ∀ s : State, s.cycleMarkDue = true → s.lineBusy = false → ∃ t, exec .cycleMarkDue s = .next t ∧
    let u := afterStaging s.trunk
    let cycle : BitVec 16 := if s.trunk.state = .syncing then 0 else s.trunk.cycle + 1
    t.trunk = { u with state := .running, cycle := cycle, timer := some u.applied.c, clock := 0, phase := .mark,
                       guard := false } ∧
    t.pins = { s.pins with tx := some (withCrc ([63, 0x02] ++ be16 cycle.toNat ++ be16 u.applied.c)) } ∧
    t.engine = s.engine ∧
    (∀ h, h ∈ t.sched.due ↔ ∃ r, t.record h = some r ∧ r.state = .active ∧ r.params.period ∈ periods ∧
      cycle.toNat % r.params.period = r.params.phase) ∧
    t.sched.due.Pairwise (fun h k => ∀ r q, t.record h = some r → t.record k = some q →
      r.params.period < q.params.period ∨ r.params.period = q.params.period ∧ h < k) ∧
    t.sched.retry = [] ∧ t.sched.entries = t.sched.due.map (fun h => ⟨h, 0, .waiting⟩) ∧
    t.acyclic = { s.acyclic with
      probeList := s.acyclic.probeList ++
        if cycle.toNat % u.applied.interval = 0 then
          (List.finRange 62).filter fun n => decide ((s.node n).state = .lost ∧ n ∉ s.acyclic.probeList)
        else [] } ∧
    (∀ p, (t.attn.get p).entry .global = (s.attn.get p).entry .global |||
      (if s.trunk.staged = none then 0 else Reason.configApplied.bit) |||
      if s.trunk.state = .syncing then Reason.trunkRunning.bit else 0) ∧
    (∀ p id, (t.attn.get p).entry (.request id) = (s.attn.get p).entry (.request id)) ∧
    (∀ n, (t.node n).state = (s.node n).state ∧ (t.node n).identity = (s.node n).identity ∧
      (t.node n).failures = (s.node n).failures) ∧
    t.store.mem = s.store.mem ∧ t.ports = s.ports ∧ t.arbiter = s.arbiter ∧ t.freeIndex = s.freeIndex ∧
    t.pending = s.pending

/-- The record as a pending amendment leaves it at a mark (R21, R56). -/
def amendedRecord (r : StreamRecord) (am : Amendment) : StreamRecord :=
  let r1 := { r with params := am.params, leaseRemaining := am.params.lease, amendment := none,
                     counters := { r.counters with consecutive := 0 } }
  match am.blocks with
  | none => r1
  | some blocks =>
    { r1 with blocks := blocks, publishedHalf := .first, sample := none, currentHalf := .first, current := none,
              posted := false, seqBit := false, resync := true }

/-- The record with the age of a present COLLECT sample counted (R50). -/
def agedRecord (r : StreamRecord) : StreamRecord :=
  if r.direction = .collect then
    { r with sample := r.sample.map fun i => { i with age := min (i.age + 1) 65535 } }
  else r

/-- At a cycle mark every pending amendment is applied, every other lease counts down, every present sample ages, and a
record whose lease runs out is freed; the owner is told, the other port is not (R17, R21, R50, R56, R148). -/
def Obligations.CycleMarkUpdatesRecords : Prop :=
  ∀ s : State, s.cycleMarkDue = true → s.lineBusy = false → s.engine.state.inFlight = none → s.LeasesSound →
    ∃ t, exec .cycleMarkDue s = .next t ∧ ∀ h,
      (s.record h = none → t.record h = none ∧
        ∀ p, (t.attn.get p).entry (.stream h) = (s.attn.get p).entry (.stream h)) ∧
      ∀ r, s.record h = some r →
        (∀ p, p ≠ r.owner → (t.attn.get p).entry (.stream h) = (s.attn.get p).entry (.stream h)) ∧
        match r.amendment with
        | some am =>
          t.record h = some (agedRecord (amendedRecord r am)) ∧
          (t.attn.get r.owner).entry (.stream h) =
            (s.attn.get r.owner).entry (.stream h) ||| Reason.amendApplied.bit
        | none =>
          if r.leaseRemaining = some 1 then
            t.record h = none ∧
            (t.attn.get r.owner).entry (.stream h) = (s.attn.get r.owner).entry (.stream h) ||| Reason.expired.bit
          else
            t.record h = some (agedRecord { r with leaseRemaining := r.leaseRemaining.map (· - 1) }) ∧
            (t.attn.get r.owner).entry (.stream h) = (s.attn.get r.owner).entry (.stream h)

/-- LEASE_EXPIRY of a record whose lease remaining is 0, in RUNNING, frees it and raises EXPIRED to its owner; on any
other record it changes nothing. That CYCLE_MARK_DUE takes the expiries of its mark within its own step is log entry 10
(R12, R13, R17). -/
def Obligations.LeaseExpiry : Prop :=
  ∀ (s : State) h,
    ((s.trunk.state ≠ .running ∨ s.record h = none ∨
        ∃ r, s.record h = some r ∧ (r.leaseRemaining ≠ some 0 ∨ r.state = .closing)) →
      exec (.leaseExpiry h) s = .next s) ∧
    ∀ r, s.trunk.state = .running → s.record h = some r → r.leaseRemaining = some 0 → r.state ≠ .closing →
      s.recordInFlight h = false → ∃ t, exec (.leaseExpiry h) s = .next t ∧
        t.record h = none ∧ (∀ k, k ≠ h → t.record k = s.record k) ∧
        (∀ k : Fin 128, t.table.load[k.val] = s.table.load[k.val] - r.chargedAt s.trunk.applied.w k) ∧
        t.store.mem = s.store.mem ∧ (∀ b, b ∈ t.store.free ↔ b ∈ s.store.free ∨ b ∈ r.listedBlocks) ∧
        t.node r.node = { s.node r.node with streams := (s.node r.node).streams - 1 } ∧
        (∀ m, m ≠ r.node → t.node m = s.node m) ∧
        (t.attn.get r.owner).entry (.stream h) = (s.attn.get r.owner).entry (.stream h) ||| Reason.expired.bit ∧
        (∀ p src, (p ≠ r.owner ∨ src ≠ .stream h) → (t.attn.get p).entry src = (s.attn.get p).entry src) ∧
        t.trunk = s.trunk ∧ t.acyclic = s.acyclic ∧ s.SameLine t ∧ t.ports = s.ports ∧ t.arbiter = s.arbiter

/-- The mark's end begins CYCLIC at 8, where first attempts begin; with no entry WAITING the phases pass on at once,
by the retry list, the probe list and the queue, the cycle settled. The guard's start ends an acyclic phase with no
exchange in flight and lets an exchange run on (R67, R68, R98, R106, R109, R126, R133). The moments are those of the
model's clock (log entry 4). -/
def Obligations.CyclePhases : Prop :=
  ∀ s : State, s.EntriesOnce → s.inCycle = true →
    (s.trunk.phase = .mark → exec .cycleMarkEnd s = .next (movedOn
      { s with trunk := { s.trunk with clock := 8, phase := .cyclic }, pins := { s.pins with tx := none } })) ∧
    (s.trunk.phase ≠ .idle → s.trunk.phase ≠ .mark → s.trunk.guard = false →
      s.reaches (max s.trunk.clock (s.trunk.applied.c - 10)) = true →
      exec .guardStart s = .next (movedOn
        { s with trunk := { s.trunk with clock := max s.trunk.clock (s.trunk.applied.c - 10), guard := true } }))

/-! ### Starts (R53, R58, R79 to R81, R98, R99, R106, R107, R109, R126, R133, R134) -/

/-- The engine starts to transmit a frame now, in a slot of the given length (R81, R82). -/
def startsNow (s : State) (poll : Poll) (n : Node) (frame : List Byte) (slot : Nat) : State :=
  { s with
    engine := { s.engine with state := .polling ⟨poll, n, s.trunk.clock + frame.length, s.trunk.clock + slot⟩ }
    pins := { s.pins with tx := some frame } }

/-- The value of a DELIVER record that lies in a half (R47, R52). -/
def valueIn (s : State) (r : StreamRecord) (half : Half) : List Byte :=
  (valueAddrs r.blocks half r.params.len).map (Memory.read s.store.mem)

/-- A stream poll's frame (R79, R183). -/
def streamPoll (r : StreamRecord) (hold : Bool) (value : List Byte) : List Byte :=
  withCrc ([byte (r.node.val + 1), 0x10, byte (r.channel % 16 + if r.direction = .deliver then 16 else 0),
    byte ((if r.seqBit then 1 else 0) + (if r.resync then 2 else 0) + if hold then 4 else 0),
    byte (if hold then 0 else r.params.len)] ++ value)

/-- A poll of a record as it starts: the entry counts an attempt; a COLLECT poll asks for the value; a DELIVER poll
carries the current delivery while it is not accepted, else the posted value, which becomes the current delivery as the
halves exchange roles, else it holds (R53, R79, R98). -/
def polled (s : State) (h : Handle) (r : StreamRecord) : State :=
  let u := { s with sched := { s.sched with entries := s.sched.entries.map fun e =>
    if e.handle = h then { e with attempts := e.attempts + 1, disposition := .inFlight } else e } }
  let slot := 13 + r.params.len + s.trunk.applied.w
  match r.direction with
  | .collect => startsNow u (.collect h r.params.len r.seqBit r.resync) r.node (streamPoll r false []) slot
  | .deliver =>
    if r.current = some false then
      startsNow u (.value h r.params.len r.seqBit r.resync) r.node (streamPoll r false (valueIn s r r.currentHalf)) slot
    else if r.posted then
      let r1 := { r with current := some false, posted := false, currentHalf := r.currentHalf.other }
      startsNow { u with table := { u.table with records := u.table.records.set h.val (some r1) h.isLt } }
        (.value h r.params.len r.seqBit r.resync) r.node (streamPoll r false (valueIn s r r1.currentHalf)) slot
    else startsNow u (.hold h r.params.len r.seqBit r.resync) r.node (streamPoll r true []) slot

/-- Every entry still to be served is of an ACTIVE record, so that none is passed over (R97). -/
def allActive (s : State) : Prop :=
  ∀ e, e ∈ s.sched.entries → e.disposition = .waiting ∨ e.disposition = .retryWait → s.isActive e.handle = true

/-- In CYCLIC the next WAITING record on the due list waits until the engine is ready and then starts its first
attempt when its slot ends by C − 10; else it and every WAITING record behind it are UNSERVED and RETRY begins, and
with an empty retry list RETRY ends at once and the cycle is settled (R98, R99, R106, R109). The moments are those of
the model's clock (log entry 4). -/
def Obligations.FirstAttemptStarts : Prop :=
  ∀ (s : State) before e after r, s.EntriesOnce → s.turn .cyclic = true → allActive s →
    s.sched.entries = before ++ e :: after → e.disposition = .waiting → (∀ d, d ∈ before → d.disposition ≠ .waiting) →
    s.record e.handle = some r →
    let ends := s.trunk.clock + (13 + r.params.len + s.trunk.applied.w)
    (s.engineReady = false → exec .firstAttemptStart s = .next s) ∧
    (s.engineReady = true → ends + 10 ≤ s.trunk.applied.c →
      exec .firstAttemptStart s = .next (polled s e.handle r)) ∧
    (s.engineReady = true → s.trunk.applied.c < ends + 10 → exec .firstAttemptStart s = .next (movedOn
      { s with sched := { s.sched with entries := s.sched.entries.map fun d =>
          if d.disposition = .waiting then { d with disposition := .unserved } else d } }))

/-- In RETRY the head of the retry list waits until the engine is ready and then starts its retry when its slot ends
by 8 + B. Else every retry is dropped and UNSERVED, RETRY ends, and the cycle is settled: each unserved ACTIVE record
counts one miss, and MISS_LIMIT is raised to its owner exactly when the run reaches its limit (R106, R107, R109,
R110). The moments are those of the model's clock (log entry 4). -/
def Obligations.RetryStarts : Prop :=
  ∀ (s : State) h tail r, s.EntriesOnce → s.turn .retry = true → allActive s → s.sched.retry = h :: tail →
    s.record h = some r →
    let ends := s.trunk.clock + (13 + r.params.len + s.trunk.applied.w)
    let b := s.trunk.applied.c - 18 - s.trunk.applied.a
    (s.engineReady = false → exec .retryStart s = .next s) ∧
    (s.engineReady = true → ends ≤ 8 + b →
      exec .retryStart s = .next (polled { s with sched := { s.sched with retry := tail } } h r)) ∧
    (s.engineReady = true → 8 + b < ends → exec .retryStart s = .next (movedOn
      { s with sched := { s.sched with
          retry := []
          entries := s.sched.entries.map fun e =>
            if e.disposition = .retryWait then { e with disposition := .unserved } else e } }))

/-- In probe service the head of the probe list is probed, at most two in a cycle: with two started, with an empty
list and in the guard nothing starts and pieces follow. Pieces are turned to in queue order: with an empty queue, a
head deferred in this phase and in the guard ACYCLIC ends. Each start waits until the engine is ready, and passes on
when its slot does not end by C − 10; a piece poll carries the offset and count of the next piece and, for a write,
its bytes (R58, R80, R81, R126, R133, R134, R183). The moments are those of the model's clock (log entry 4). -/
def Obligations.AcyclicStarts : Prop :=
  ∀ s : State,
    (s.turn .probes = true →
      let pieces := movedOn { s with trunk := { s.trunk with phase := .pieces } }
      (s.acyclic.probesRun ≥ 2 ∨ s.acyclic.probeList = [] ∨ s.trunk.guard = true →
        exec .probeStart s = .next pieces) ∧
      ∀ n tail, s.acyclic.probeList = n :: tail → s.acyclic.probesRun < 2 → s.trunk.guard = false →
        let slot := 21 + s.trunk.applied.w
        exec .probeStart s = .next
          (if s.engineReady = false then s
          else if s.trunk.clock + slot + 10 ≤ s.trunk.applied.c then
            startsNow { s with acyclic := { s.acyclic with probesRun := s.acyclic.probesRun + 1 } } .probe n
              (withCrc [byte (n.val + 1), 0x11, 0, 0, 0]) slot
          else pieces)) ∧
    (s.turn .pieces = true →
      let ended := { s with trunk := { s.trunk with phase := .over } }
      (s.acyclic.queue = [] ∨ (∃ id tail, s.acyclic.queue = id :: tail ∧ id ∈ s.acyclic.deferred) ∨
          s.trunk.guard = true → exec .pieceStart s = .next ended) ∧
      ∀ id tail q, s.acyclic.queue = id :: tail → id ∉ s.acyclic.deferred → s.trunk.guard = false →
        s.request id = some q →
        let n := min 32 (q.length - q.progress)
        let slot := 17 + n + s.trunk.applied.w
        let data := (List.range n).map fun i => s.store.mem.read (32 * (320 + 8 * id.val) + q.progress + i)
        exec .pieceStart s = .next
          (if s.engineReady = false then s
          else if s.trunk.clock + slot + 10 ≤ s.trunk.applied.c then
            startsNow
              { s with acyclic := { s.acyclic with
                requests := s.acyclic.requests.set id.val (some { q with state := .active }) id.isLt } }
              (.piece id q.kind q.progress n) q.node
              (withCrc ([byte (q.node.val + 1), 0x12, if q.kind = .read then 0 else 1] ++ be16 q.param ++
                [byte q.progress, byte n, byte (q.length - 1)] ++ if q.kind = .read then [] else data)) slot
          else ended))

/-! ### Exchanges on the line (R82 to R89) -/

/-- At the end of the poll the transmitter is released and the window opens; a reply that begins within W is received
and makes the line busy; an idle byte-time after an overlong reply ends quieting; a stray byte makes an idle line busy
while it lasts. On TXD a frame in transmission stands as its bytes in order, each a start bit, the 8 data bits least
significant bit first, and a stop bit, and TXEN is asserted for it alone (R59, R82, R87, R88, R182). The moments are
those of the model's clock (log entry 4). That a REPLY_BEGIN later than W leaves the state as it stands (log entry 2),
and the row STRAY_BYTES with its time and its level (log entry 22), are the model's choice. -/
def Obligations.EngineTiming : Prop :=
  ∀ s : State,
    (∀ x, s.engine.state = .polling x → s.reaches x.pollEnd = true → exec .pollSent s = .next
      { s with
        trunk := { s.trunk with clock := x.pollEnd }
        engine := { s.engine with state := .awaiting x }
        pins := { s.pins with tx := none } }) ∧
    (∀ x after, s.engine.state = .awaiting x →
      (s.reaches (x.pollEnd + after) = true → exec (.replyBegin after) s = .next
        { s with
          trunk := { s.trunk with clock := x.pollEnd + after }
          engine := { s.engine with state := .receiving x (x.pollEnd + after) }
          pins := { s.pins with rxBusy := true } }) ∧
      (s.trunk.applied.w < after → exec (.replyBegin after) s = .next s)) ∧
    (∀ slotEnd after, s.engine.state = .quieting slotEnd → 1 ≤ after → s.reaches (slotEnd + after) = true →
      exec (.quietingEnd after) s = .next
        { s with
          trunk := { s.trunk with clock := slotEnd + after }
          engine := { s.engine with state := .idle }
          pins := { s.pins with rxBusy := false } }) ∧
    (s.pins.tx = none → s.txen = false ∧ ∀ n, s.txd n = none) ∧
    (∀ frame, s.pins.tx = some frame → s.txen = true ∧ (∀ n, 10 * frame.length ≤ n → s.txd n = none) ∧
      ∀ k b, frame[k]? = some b → s.txd (10 * k) = some .start ∧
        (∀ i, i < 8 → s.txd (10 * k + 1 + i) = some (.data (b.getLsbD i))) ∧ s.txd (10 * k + 9) = some .stop) ∧
    ∀ elapsed receiving, s.engine.state = .idle → s.pins.tx = none →
      (s.trunk.timer = none → exec (.strayBytes elapsed receiving) s = .next
        { s with pins := { s.pins with rxBusy := receiving } }) ∧
      (s.trunk.timer ≠ none → s.reaches (s.trunk.clock + elapsed) = true →
        exec (.strayBytes elapsed receiving) s = .next
          { s with
            trunk := { s.trunk with clock := s.trunk.clock + elapsed }
            pins := { s.pins with rxBusy := receiving } })

/-- The kind byte of the reply that answers a poll (Table 12-3). -/
def ownReplyKind : Poll → Byte
  | .probe => 0x21
  | .piece _ _ _ _ => 0x22
  | _ => 0x20

/-- What stands between the reply code and the declared length: a piece reply's offset echo (Table 12-3). -/
def ownEcho : Poll → List Byte
  | .piece _ _ offset _ => [byte offset]
  | _ => []

/-- The payload length that an ACCEPT calls for: L for a COLLECT poll, n for a read piece, 8 for a probe (R85). -/
def ownAcceptLength : Poll → Nat
  | .collect _ len _ _ => len
  | .probe => 8
  | .piece _ .read _ n => n
  | _ => 0

/-- A reply to a poll, a probe or a piece is judged by the tests of Table 5-3 in order: complete, CRC, header, declared
length, reply code, content. The header of the reply that answers carries the polled node, the reply kind of the poll
and, for a piece, its offset; the identity of a probe's ACCEPT has a channel count of 1..16 and a largest payload of
8..128. A reply that is damaged, short, from another node, of another kind or with another offset is CRC_ERROR. Bit 7 of
the code is read in the ACCEPT of a COLLECT or a value poll alone (R85, R86, R184). That the declared length of a reply
of another kind stands where the poll's own reply has it is the model's choice (log entry 33). -/
def Obligations.ReplyJudgement : Prop :=
  ∀ (x : Exchange) (code : Byte) (payload : List Byte), payload.length ≤ 255 →
    let node := byte (x.node.val + 1)
    let kind := ownReplyKind x.poll
    let echo := ownEcho x.poll
    let frame := fun (a k : Byte) (e : List Byte) => withCrc ([a, k, code] ++ e ++ [byte payload.length] ++ payload)
    let own := frame node kind echo
    let reply := code.toNat % 128
    let expected := if reply = 1 then ownAcceptLength x.poll else 0
    let field := fun i => ((payload[i]?).getD 0).toNat
    judgeReply x own =
      (if reply < 1 ∨ 3 < reply then .crcError
      else if payload.length ≠ expected then .badLength
      else if reply = 2 then .deferred
      else if reply = 3 then .refused
      else
        match x.poll with
        | .collect _ _ bit _ => if code.msb = bit then .ok else .duplicate
        | .value _ _ bit _ => if code.msb = bit then .ok else .crcError
        | .probe => if 1 ≤ field 2 ∧ field 2 ≤ 16 ∧ 8 ≤ field 3 ∧ field 3 ≤ 128 then .ok else .crcError
        | _ => .ok) ∧
    (∀ a k e, e.length = echo.length → (a ≠ node ∨ k ≠ kind ∨ e ≠ echo) → judgeReply x (frame a k e) = .crcError) ∧
    (∀ n, n < own.length → judgeReply x (own.take n) = .crcError) ∧
    ∀ bytes, bytes.length = own.length → bytes.take (own.length - 2) = own.take (own.length - 2) → bytes ≠ own →
      judgeReply x bytes = .crcError

/-- The disposition of a record's entry replaced. -/
def disposed (s : State) (h : Handle) (d : Disposition) : List ServiceEntry :=
  s.sched.entries.map fun e => if e.handle = h then { e with disposition := d } else e

/-- The state as the report of an exchange finds it: the moment, the engine's next state and what it has left on RXD. A
reply judged has no byte in reception; a timeout and an overlong reply leave RXD as it is (R82, R85, R87, R88). -/
def exchangeOver (s : State) (c : Instr) (m : Nat) (next : EngineState) : State :=
  { s with
    trunk := { s.trunk with clock := m }
    engine := { s.engine with state := next }
    pins :=
      match c with
      | .replyEnd _ _ => { s.pins with rxBusy := false }
      | _ => s.pins }

/-- A whole COLLECT reply with ACCEPT, a good CRC, the length and the bit expected is published, in CYCLIC and in
RETRY: its bytes stand in the half that was the arrival half, which becomes the published half, with age 0 and the
cycle's number; the bit toggles and the record is SERVED; the node is PRESENT; and with nothing left to wait for the
phases move on, RETRY with its settlement (R47, R49, R84, R98, R100, R106, R109, R117, R122). The moments are those of
the model's clock (log entry 4). -/
def Obligations.ReplyPublishesSample : Prop :=
  ∀ (s : State) x start h len bit resync r payload gaps, s.PoolTrue → s.store.mem.wf = true → s.EntriesOnce →
    s.engine.state = .receiving x start → x.poll = .collect h len bit resync → s.record h = some r →
    r.state = .active → r.params.len = len → len ≤ 128 → payload.length = len →
    let bytes := withCrc ([byte (x.node.val + 1), 0x20, if bit then 0x81 else 0x01, byte len] ++ payload)
    gaps ≤ bytes.length - 2 → s.reaches (start + bytes.length + gaps) = true → ∃ mem,
      (let v := nodeAnswered (exchangeOver s (.replyEnd bytes gaps) (start + bytes.length + gaps) .idle) x.node none
       exec (.replyEnd bytes gaps) s = .next (movedOn
        { v with
          sched := { s.sched with entries := disposed s h .served }
          store := { s.store with mem := mem }
          table := { v.table with
            records := v.table.records.set h.val
              (some { r with
                publishedHalf := r.publishedHalf.other, sample := some ⟨s.trunk.cycle.toNat, 0⟩, seqBit := !r.seqBit
                resync := false
                counters := { r.counters with served := min (r.counters.served + 1) 65535, consecutive := 0 } })
              h.isLt } })) ∧
      mem.wf = true ∧
      (∀ i v, payload[i]? = some v → ∃ a, byteAddress r.blocks r.publishedHalf.other i = some a ∧ mem.read a = v) ∧
      ∀ a, (∀ i, i < len → byteAddress r.blocks r.publishedHalf.other i ≠ some a) → mem.read a = s.store.mem.read a

/-- The end of a stream poll by a judged reply, with the outcome, the moment and the engine's next state. -/
def endsByReply (s : State) (x : Exchange) (o : ExchangeOutcome) (c : Instr) (m : Nat) : Prop :=
  ∃ start bytes gaps, s.engine.state = .receiving x start ∧ bytes ≠ [] ∧
    gaps ≤ (replyFrame x.poll bytes).length - 2 ∧ c = .replyEnd bytes gaps ∧
    m = replyEndMoment x.poll start bytes gaps ∧ judgeReply x bytes = o

/-- The record after an answered poll that publishes nothing: resync pending is no, and DUPLICATE and OK count it served
(R54, R100 to R103). -/
def answeredRecord (r : StreamRecord) (poll : Poll) (o : ExchangeOutcome) : StreamRecord :=
  let r1 := { r with resync := false }
  let k := { r.counters with served := min (r.counters.served + 1) 65535, consecutive := 0 }
  match o, poll with
  | .duplicate, _ => { r1 with counters := { k with duplicates := min (r.counters.duplicates + 1) 65535 } }
  | .ok, .value _ _ _ _ => { r1 with counters := k, current := r.current.map fun _ => true, seqBit := !r.seqBit }
  | .ok, _ => { r1 with counters := k }
  | .refused, _ => { r1 with state := .faulted }
  | _, _ => r1

/-- The Value Store's memory at the end of an exchange: the payload bytes of the reply, if there was one, placed
(R84). -/
def endPlaced (s : State) (x : Exchange) (c : Instr) (mem : Memory) : Prop :=
  match c with
  | .replyEnd bytes _ => placed s x.poll (replyPayload x.poll bytes) mem
  | .slotEndOverlong bytes => placed s x.poll (replyPayload x.poll bytes) mem
  | _ => mem = s.store.mem

/-- An answered poll, in CYCLIC and in RETRY. Of an ACTIVE record, publishing no sample: DUPLICATE and a DELIVER OK
serve it, DEFERRED leaves it unserved without a retry, REFUSED makes it FAULTED, off the lists, and tells its owner.
Of a CLOSING record the outcome is not applied: the record is freed and its parked CLOSE_STREAM answered, an orphan's
without a trace. In every case the node is PRESENT with failures 0, and with nothing left to wait for the phases move
on, RETRY with its settlement (R15, R54, R98, R101 to R103, R105, R106, R109, R117, R122, R162, R164). The moments are
those of the model's clock (log entry 4), and that every answer clears resync pending is log entry 16. -/
def Obligations.AnsweredPoll : Prop :=
  ∀ (s : State) x h r o c m, s.EntriesOnce → endsByReply s x o c m → s.reaches m = true → x.poll.handle? = some h →
    s.record h = some r → ∃ mem, endPlaced s x c mem ∧
    let v := nodeAnswered { exchangeOver s c m .idle with store := { s.store with mem := mem } } x.node none
    (r.state = .active →
      (o = .duplicate ∨ o = .deferred ∨ o = .refused ∨ o = .ok ∧ r.direction = .deliver ∧
        ∀ k len bit resync, x.poll ≠ .collect k len bit resync) →
      exec c s = .next (movedOn
        { v with
          sched :=
            if o = .refused then unlisted s h
            else { s.sched with entries := disposed s h (if o = .deferred then .unserved else .served) }
          attn := if o = .refused then v.attn.put r.owner ((v.attn.get r.owner).raise (.stream h) .faulted) else v.attn
          table := { v.table with records := v.table.records.set h.val (some (answeredRecord r x.poll o)) h.isLt } })) ∧
    (r.state = .closing → (o = .ok ∨ o = .duplicate ∨ o = .deferred ∨ o = .refused) →
      ∃ u, closedAtEnd v h r u ∧ exec c s = .next (movedOn u))

/-- The end of a stream poll with no answer: the window has passed, the reply is damaged or of a wrong length, or the
slot has ended on it; with the moment and the engine's next state (R82, R85, R88). -/
def endsUnanswered (s : State) (x : Exchange) (c : Instr) (m : Nat) (e : EngineState) : Prop :=
  (s.engine.state = .awaiting x ∧ c = .exchangeTimeout ∧ m = x.pollEnd + s.trunk.applied.w ∧ e = .idle) ∨
  ((endsByReply s x .crcError c m ∨ endsByReply s x .badLength c m) ∧ e = .idle) ∨
  ∃ start bytes, s.engine.state = .receiving x start ∧ stillArriving x.poll (x.slotEnd - start) bytes = true ∧
    c = .slotEndOverlong bytes ∧ m = x.slotEnd ∧ e = .quieting x.slotEnd

/-- An unanswered poll that does not lose its node, in CYCLIC and in RETRY, counts against the node. While attempts is
no greater than the retry limit an ACTIVE record joins the tail of the retry list; else it is UNSERVED; no counter and
no value field of it changes. A CLOSING record is freed and its parked CLOSE_STREAM answered, an orphan's without a
trace. With nothing left to wait for the phases move on, RETRY with its settlement (R15, R98, R104 to R106, R109,
R118, R162, R164). The moments are those of the model's clock (log entry 4). -/
def Obligations.UnansweredPoll : Prop :=
  ∀ (s : State) x h r c m next, s.EntriesOnce → endsUnanswered s x c m next → s.reaches m = true →
    x.poll.handle? = some h → s.record h = some r → s.lossDue x.node = false → ∃ mem, endPlaced s x c mem ∧
    let again := s.attempts h ≤ r.params.retryLimit
    let v := { exchangeOver s c m next with
      store := { s.store with mem := mem }
      roster := withNode s x.node { s.node x.node with failures := min ((s.node x.node).failures + 1) 15 } }
    (r.state = .active → exec c s = .next (movedOn
      { v with sched := { s.sched with
          retry := if again then s.sched.retry ++ [h] else s.sched.retry
          entries := disposed s h (if again then .retryWait else .unserved) } })) ∧
    (r.state = .closing → ∃ u, closedAtEnd v h r u ∧ exec c s = .next (movedOn u))

/-- What the loss of a node does, from `s` to `t`, when the exchange that caused it belongs to the request `own`, or
to none: ROSTER_CHANGED goes to both ports; every ACTIVE record of the node is SUSPENDED, off the lists, but for one
that `freed` names; every QUEUED or ACTIVE request to the node but `own` is FAILED with NODE_LOST, off the queue;
their owners are told; and the probe list stays (R8, R121, R143). -/
def lossTold (s t : State) (n : Node) (freed : Handle → Bool) (own : Option ReqId) : Prop :=
  (∀ p, (t.attn.get p).entry .global = (s.attn.get p).entry .global ||| Reason.rosterChanged.bit) ∧
  (∀ k q, s.record k = some q → q.node = n →
    t.record k = (if freed k then none
      else some (if q.state = .active then { q with state := .suspended } else q)) ∧
    (q.state = .active → k ∉ t.sched.due ∧ k ∉ t.sched.retry ∧
      (t.attn.get q.owner).entry (.stream k) = (s.attn.get q.owner).entry (.stream k) ||| Reason.suspended.bit)) ∧
  (∀ k, (t.record k).map StreamRecord.state = if freed k then none else
    (s.record k).map fun q => if q.node = n ∧ q.state = .active then .suspended else q.state) ∧
  (∀ id, own ≠ some id → t.request id = (s.request id).map fun q =>
    if q.node = n ∧ (q.state = .queued ∨ q.state = .active) then
      { q with state := .failed, reason := some .nodeLost }
    else q) ∧
  (∀ id q, own ≠ some id → s.request id = some q → q.node = n → (q.state = .queued ∨ q.state = .active) →
    id ∉ t.acyclic.queue ∧
    (t.attn.get q.owner).entry (.request id) = (s.attn.get q.owner).entry (.request id) |||
      Reason.requestFailed.bit) ∧
  t.acyclic.probeList = s.acyclic.probeList

/-- An unanswered stream poll that brings its node's failures to the silence threshold makes the node LOST:
ROSTER_CHANGED goes to both ports, every ACTIVE record of the node is SUSPENDED, off the lists, with no miss counted,
and every QUEUED or ACTIVE request to it is FAILED with NODE_LOST; their owners are told. A CLOSING record that was
polled is freed and its parked CLOSE_STREAM answered (R8, R15, R118, R121, R143, R162). The moments are those of the
model's clock (log entry 4). -/
def Obligations.NodeLoss : Prop :=
  ∀ (s : State) x h r c m next, endsUnanswered s x c m next → s.reaches m = true → x.poll.handle? = some h →
    s.record h = some r → (r.state = .active ∨ r.state = .closing) → r.node = x.node → s.lossDue x.node = true →
    ∃ t, exec c s = .next t ∧
      let freed := fun k => decide (k = h ∧ r.state = .closing)
      t.node x.node = { s.node x.node with
        state := .lost
        failures := min ((s.node x.node).failures + 1) 15
        streams := (s.node x.node).streams - if r.state = .closing then 1 else 0 } ∧
      (∀ n, n ≠ x.node → t.node n = s.node n) ∧ lossTold s t x.node freed none ∧
      (r.state = .active → t.store.free = s.store.free ∧ t.table.load = s.table.load ∧
        t.ports = s.ports ∧ t.arbiter = s.arbiter) ∧
      (r.state = .closing →
        (∀ k : Fin 128, t.table.load[k.val] = s.table.load[k.val] - r.params.chargeAt s.trunk.applied.w k) ∧
        (∀ b, b ∈ t.store.free ↔ b ∈ s.store.free ∨ b ∈ r.blocks) ∧
        t.ports = (unparked s (closeAnswer h)).ports ∧ t.arbiter = (unparked s (closeAnswer h)).arbiter)

/-! ### The ends of pieces and probes (R58, R117, R119, R126, R127, R135 to R139, R142, R143) -/

/-- A request kept in the queue, its record replaced. -/
def inQueue (s : State) (id : ReqId) (q : Request) : AcyclicScheduler :=
  { s.acyclic with requests := s.acyclic.requests.set id.val (some q) id.isLt }

/-- An answered piece. Of an ACTIVE request: OK advances progress and clears the counts, and the last makes it DONE;
DEFERRED moves it to the tail or, the eighth time, fails it; REFUSED fails it; the owner is told of the end. A
CANCELLING request is freed and its parked CANCEL_REQUEST answered, an orphan's without a trace. Bytes of a read lie
in the area from the piece's offset. In every case the node is PRESENT with failures 0, and with nothing left to serve
ACYCLIC ends (R58, R84, R117, R122, R133, R135 to R137, R139, R142, R162, R164). The moments are those of the model's
clock (log entry 4). -/
def Obligations.PieceAnswered : Prop :=
  ∀ (s : State) x id kind offset n q o c m, s.EntriesOnce → endsByReply s x o c m → s.reaches m = true →
    x.poll = .piece id kind offset n → s.request id = some q → (o = .ok ∨ o = .deferred ∨ o = .refused) →
    ∃ mem, endPlaced s x c mem ∧
    let v := nodeAnswered { exchangeOver s c m .idle with store := { s.store with mem := mem } } x.node none
    let q1 : Request :=
      match o with
      | .ok => { q with progress := q.progress + n, defers := 0, failures := 0,
                        state := if q.progress + n = q.length then .done else .active }
      | .deferred =>
        if q.defers + 1 = 8 then { q with defers := 8, failures := 0, state := .failed, reason := some .deferLimit }
        else { q with defers := q.defers + 1, failures := 0 }
      | _ => { q with state := .failed, reason := some .refused }
    (q.state = .active → exec c s = .next (movedOn
      { v with
        acyclic :=
          if q1.state ≠ .active then outOfQueue s id (some q1)
          else if o = .deferred then
            { inQueue s id q1 with
              queue := s.acyclic.queue.filter (· ≠ id) ++ [id], deferred := s.acyclic.deferred ++ [id] }
          else inQueue s id q1
        attn :=
          if q1.state = .done then v.attn.put q.owner ((v.attn.get q.owner).raise (.request id) .requestDone)
          else if q1.state = .failed then
            v.attn.put q.owner ((v.attn.get q.owner).raise (.request id) .requestFailed)
          else v.attn })) ∧
    (q.state = .cancelling → exec c s = .next (movedOn (cancelledAtEnd v id q)))

/-- An unanswered piece of an ACTIVE request counts a failure of the piece and of the node; the third fails the
request with NO_ANSWER and a lost node fails it with NODE_LOST. Where the end also makes the node LOST, R143 gives the
failure count and the reason for either order of the loss and the outcome and fixes no order: the model draws it from
a free value (log entry 7), and this holds whatever it is. The loss also goes to both ports, to the node's ACTIVE
records, which are SUSPENDED, and to its other requests. A CANCELLING request is freed and its parked CANCEL_REQUEST
answered, an orphan's without a trace, and the node counts the failure all the same (R8, R118, R121, R138, R139, R142,
R143, R162, R164). The moments are those of the model's clock (log entry 4). -/
def Obligations.PieceUnanswered : Prop :=
  ∀ (s : State) x id kind offset n q c m next, s.EntriesOnce → endsUnanswered s x c m next → s.reaches m = true →
    x.poll = .piece id kind offset n → s.request id = some q → (q.state = .active ∨ q.state = .cancelling) →
    q.node = x.node →
    ∃ mem, endPlaced s x c mem ∧
    let v := { exchangeOver s c m next with
      store := { s.store with mem := mem }
      roster := withNode s x.node { s.node x.node with failures := min ((s.node x.node).failures + 1) 15 } }
    (s.lossDue x.node = false →
      (q.state = .cancelling → exec c s = .next (movedOn (cancelledAtEnd v id q))) ∧
      (q.state = .active → q.failures ≠ 2 → exec c s = .next (movedOn
        { v with acyclic := inQueue s id { q with failures := q.failures + 1 } })) ∧
      (q.state = .active → q.failures = 2 → exec c s = .next (movedOn
        { v with
          acyclic := outOfQueue s id (some { q with failures := 3, state := .failed, reason := some .noAnswer })
          attn := s.attn.put q.owner ((s.attn.get q.owner).raise (.request id) .requestFailed) }))) ∧
    (s.lossDue x.node = true → ∃ t, exec c s = .next t ∧ t.engine = { s.engine with state := next } ∧
      t.node x.node = { s.node x.node with state := .lost, failures := min ((s.node x.node).failures + 1) 15 } ∧
      (∀ o, o ≠ x.node → t.node o = s.node o) ∧ t.store = { s.store with mem := mem } ∧
      t.table.load = s.table.load ∧ lossTold s t x.node (fun _ => false) (some id) ∧
      (q.state = .cancelling → t.request id = none ∧ id ∉ t.acyclic.queue ∧
        t.ports = (unparked s (cancelAnswer id q)).ports ∧ t.arbiter = (unparked s (cancelAnswer id q)).arbiter) ∧
      (q.state = .active → id ∉ t.acyclic.queue ∧ t.ports = s.ports ∧ t.arbiter = s.arbiter ∧
        (t.attn.get q.owner).entry (.request id) = (s.attn.get q.owner).entry (.request id) |||
          Reason.requestFailed.bit ∧
        (t.request id = some { q with state := .failed, reason := some .nodeLost } ∨
          t.request id = some { q with
            failures := q.failures + 1
            state := .failed
            reason := some (if q.failures = 2 then .noAnswer else .nodeLost) })))

/-- A probe takes its address off the list whatever its outcome; SCAN_DONE follows when that empties the list with
scan pending. OK makes the node PRESENT with the identity it reported, DEFERRED and REFUSED make it PRESENT and leave
the identity it had; from LOST its streams are resumed with bit 0 and resync pending. An unanswered probe makes an
UNKNOWN entry ABSENT and changes no other. Then the next probe is due, or pieces, or the quiet line (R9, R86, R117,
R119, R122, R126, R127, R133). The moments are those of the model's clock (log entry 4); what a short reply leaves in
the identity holding is log entry 29. -/
def Obligations.ProbeEnd : Prop :=
  ∀ (s : State) x, s.EntriesOnce → x.poll = .probe →
    let left := s.acyclic.probeList.filter (· ≠ x.node)
    let done := left = [] ∧ s.acyclic.scanPending = true
    let scan : ReasonSet := if done then Reason.scanDone.bit else 0
    let listed := { s.acyclic with
      probeList := left, scanPending := if done then false else s.acyclic.scanPending }
    let holding := fun (u : State) payload => { u with engine := { u.engine with identity := heldIdentity s .probe payload } }
    let payloadOf := fun c =>
      match c with
      | Instr.replyEnd bytes _ => replyPayload .probe bytes
      | .slotEndOverlong bytes => replyPayload .probe bytes
      | _ => []
    (∀ c m next, endsUnanswered s x c m next → s.reaches m = true →
      let v := holding (exchangeOver s c m next) (payloadOf c)
      let new := (s.node x.node).state = .unknown
      exec c s = .next (movedOn
        { v with
          acyclic := listed
          roster := if new then withNode s x.node { s.node x.node with state := .absent } else s.roster
          attn := told s ((if new then Reason.rosterChanged.bit else 0) ||| scan) fun _ _ => 0 })) ∧
    (∀ o c m, endsByReply s x o c m → s.reaches m = true → (o = .deferred ∨ o = .refused) →
      let v := nodeAnswered (holding (exchangeOver s c m .idle) (payloadOf c)) x.node none
      exec c s = .next (movedOn { v with acyclic := listed, attn := told v scan fun _ _ => 0 })) ∧
    ∀ start identity gaps t1 t0 ch lp r4 r5 r6 r7, s.engine.state = .receiving x start →
      identity = Identity.mk (word16 t1 t0) ch.toNat lp.toNat → 1 ≤ ch.toNat → ch.toNat ≤ 16 → 8 ≤ lp.toNat →
      lp.toNat ≤ 128 → gaps ≤ 12 → s.reaches (start + 14 + gaps) = true →
      let bytes := withCrc [byte (x.node.val + 1), 0x21, 1, 8, t1, t0, ch, lp, r4, r5, r6, r7]
      let v := nodeAnswered (holding (exchangeOver s (.replyEnd bytes gaps) (start + 14 + gaps) .idle)
        [t1, t0, ch, lp, r4, r5, r6, r7]) x.node (some identity)
      exec (.replyEnd bytes gaps) s = .next (movedOn { v with acyclic := listed, attn := told v scan fun _ _ => 0 })
end

