-- ==== Sys2Proof/WellFormed.lean ====
section
/-! DEFINITION. Which commands name an event that the spec's rules allow at all, judged on the operands alone. The
machine does not rely on it: a command whose operands fail here leaves the machine as it stands (log entry 2). -/

namespace Sys2Proof

/-- The operands of a step lie within the bounds the spec sets for the event:
* a RESULT transaction, kind byte 0xA5, is always taken (R159), so it is never a transaction not taken;
* a reply begins at most W, hence at most 40, byte-times after the poll (R82, Table 2-4);
* a reply holds at least the byte whose start bit began it (R82), and each idle stretch between two of its bytes is
  shorter than a byte-time, or the reply has ended short (R83);
* an overlong reply has at least one whole byte by its slot end, since a slot leaves at least 6 byte-times (Table 5-1);
* quieting lasts at least one byte-time and at most 16 (R88, R89). -/
def Instr.wellFormed : Instr → Bool
  | .transactionNotTaken _ sent => sent.head? != some 0xA5
  | .replyBegin turnaround => decide (turnaround ≤ 40)
  | .replyEnd bytes gaps => decide (bytes ≠ []) && decide (gaps ≤ bytes.length - 2)
  | .slotEndOverlong bytes => decide (bytes ≠ [])
  | .quietingEnd after => decide (1 ≤ after) && decide (after ≤ 16)
  | _ => true

end Sys2Proof
end

