-- ==== Sys2Proof/Tests/Slice0.lean ====
section
/-! SUPPORT. The model's own tests: the well-formedness checks, values worked in the spec, and for every obligation that
has hypotheses a state and operands that meet them, clause by clause. -/

namespace Sys2Proof.Tests

open Sys2Proof.Machine

set_option Elab.async false

/-! ### Small states -/

/-- Port A has a command in hand, which the arbiter takes next. -/
def asked (name : CommandName) (body : List Byte) (s : State) : State :=
  { s with arbiter := { s.arbiter with waiting := [⟨.a, name.code, 7, body⟩] }
           ports := s.ports.put .a { s.ports.a with state := .working } }

theorem asked_isNext (name : CommandName) (body : List Byte) (s : State) :
    (asked name body s).IsNext .a name ⟨.a, name.code, 7, body⟩ [] := ⟨rfl, rfl, rfl⟩

/-- A DELIVER stream of node 1, channel 0, 8 bytes, every cycle, owned by port A. -/
def stream : StreamRecord :=
  { owner := .a, node := 0, channel := 0, direction := .deliver, params := ⟨1, 0, 8, 3, some 255, some 65535⟩,
    leaseRemaining := some 65535, state := .active, seqBit := false, resync := true, blocks := [0, 1],
    publishedHalf := .first, sample := none, currentHalf := .first, current := none, posted := false,
    counters := ⟨0, 0, 0, 0, 0⟩, amendment := none }

/-- The same as COLLECT. -/
def collect : StreamRecord := { stream with direction := .collect }

/-- A state with one record, at handle 0, its charge in the Load Map, its blocks taken and its node PRESENT. -/
def one (r : StreamRecord) : State :=
  { State.reset with
    table := ⟨(Vector.replicate 64 none).set 0 (some r), Vector.ofFn fun k => r.chargedAt 4 k.val⟩
    store := ⟨[], poolBlocks.drop r.listedBlocks.length⟩
    roster := State.reset.roster.set 0 ⟨.present, none, 0, 1⟩ }

theorem one_record (r : StreamRecord) (h : Handle) : (one r).record h = if h = 0 then some r else none := by
  simp only [one, State.record, Vector.getElem_set, Vector.getElem_replicate, Fin.ext_iff]
  rcases h with ⟨_ | h, hh⟩ <;> simp

theorem one_only {r q : StreamRecord} {h : Handle} (e : (one r).record h = some q) : h = 0 ∧ q = r := by
  rw [one_record] at e
  split at e <;> simp_all

theorem handles_split : handles = 0 :: (List.finRange 63).map Fin.succ := List.finRange_succ

theorem one_record_zero (r : StreamRecord) : (one r).record 0 = some r := one_record r 0

theorem one_record_succ (r : StreamRecord) (k : Fin 63) : (one r).record k.succ = none := by
  rw [one_record, if_neg (Fin.succ_ne_zero k)]

theorem pool_ascending : poolBlocks.Pairwise (· < ·) := by
  refine List.Pairwise.map _ (fun a b h => ?_) (List.pairwise_lt_finRange 320)
  exact h

/-- The pool of a state with one record that lists the first blocks. -/
theorem one_poolTrue (r : StreamRecord) (n : Nat) (hb : r.blocks = poolBlocks.take n) (hn : n = blocksNeeded r.params.len)
    (hl : n ≤ 320) (ha : r.amendment = none) : (one r).PoolTrue := by
  have hr : r.listedBlocks = poolBlocks.take n := by simp [StreamRecord.listedBlocks, hb, ha]
  have hlen : (poolBlocks.take n).length = n := by simp [poolBlocks, hl]
  have hs : (one r).store.free = poolBlocks.drop n := by
    show poolBlocks.drop r.listedBlocks.length = _
    rw [hr, hlen]
  have hlist : (one r).listedBlocks = poolBlocks.take n := by
    rw [State.listedBlocks, handles_split, List.flatMap_cons, one_record_zero]
    simp only [hr, List.flatMap_map, one_record_succ]
    simp
  refine ⟨?_, ?_, ?_, ?_⟩
  · rw [hs, hlist]
    exact List.perm_append_comm.trans (by rw [List.take_append_drop])
  · rw [hs]
    exact pool_ascending.sublist (List.drop_sublist _ _)
  · intro h q e
    obtain ⟨-, rfl⟩ := one_only e
    exact ⟨by rw [hb, hlen, hn], by rw [ha]; rintro am ⟨⟩⟩
  · intro h q e _
    obtain ⟨-, rfl⟩ := one_only e
    exact ha

theorem sum_zeros {α : Type} (l : List α) : (l.map fun _ => 0).sum = 0 := by
  induction l <;> simp_all

theorem one_load (r : StreamRecord) (k : Fin 128) : (one r).table.load[k.val] = r.chargedAt 4 k.val := by
  simp [one]

/-- The Load Map of a state with one record. -/
theorem one_loadTrue (r : StreamRecord) (ha : r.amendment = none) (hc : 13 + r.params.len + 4 ≤ 832) :
    (one r).LoadTrue := by
  refine ⟨fun k => ?_, fun k => ?_, ?_, fun _ => rfl⟩
  · rw [one_load, State.chargedAt, handles_split, List.map_cons, one_record_zero, List.sum_cons]
    simp only [List.map_map, Function.comp_def, one_record_succ]
    exact (by rw [sum_zeros, Nat.add_zero] : r.chargedAt 4 k.val = r.chargedAt 4 k.val + ((List.finRange 63).map fun _ => 0).sum)
  · rw [one_load]
    have hm : (one r).trunk.admissionLimit = CycleUnit.reset.admissionLimit := rfl
    rw [hm, (by decide : CycleUnit.reset.admissionLimit = 832)]
    simp only [StreamRecord.chargedAt, ha, Params.chargeAt, slotCost]
    split <;> omega
  · intro h q e _
    obtain ⟨-, rfl⟩ := one_only e
    exact ha

theorem one_keysDistinct (r : StreamRecord) : (one r).KeysDistinct := by
  intro h k q q' e e' _ _ _
  rw [(one_only e).1, (one_only e').1]

/-- A trunk that runs cycle 5 with its timer at C, at byte-time 100 of a phase. -/
def running (phase : Phase) (s : State) : State :=
  { s with trunk := { s.trunk with
      state := .running, cycle := 5, marksSent := 4, timer := some 1000, clock := 100, phase := phase } }

/-- An exchange with node 1 whose poll ended at 120 and whose slot ends at 145. -/
def exchange (p : Poll) : Exchange := ⟨p, 0, 120, 145⟩

/-- The same in reception since 121, at the moment 121. -/
def receiving (p : Poll) (s : State) : State :=
  { s with
    engine := { s.engine with state := .receiving (exchange p) 121 }
    trunk := { s.trunk with clock := 121 }
    pins := { s.pins with rxBusy := true } }

/-- The record at handle 0 on the lists of the cycle, its exchange in flight. -/
def listed (d : Disposition) (s : State) : State := { s with sched := ⟨[0], [], [⟨0, 1, d⟩]⟩ }

/-- Requests of port A to node 1 in their states, at ids from 0. -/
def withRequest (q : Request) (s : State) : State :=
  { s with acyclic := { s.acyclic with
      requests := s.acyclic.requests.set 0 (some q)
      queue := if q.state = .queued ∨ q.state = .active then [0] else [] } }

/-- A parameter write of 40 bytes to node 1. -/
def request (st : ReqState) : Request := ⟨st, .a, .write, 0, 513, 40, 32, none, 0, 0⟩

/-! ### Well-formedness: one ill-formed command for each check -/

theorem test_notTaken_of_result_kind : (Instr.transactionNotTaken .a [0xA5, 0]).wellFormed = false := by decide
theorem test_reply_begins_past_largest_w : (Instr.replyBegin 41).wellFormed = false := by decide
theorem test_reply_without_bytes : (Instr.replyEnd [] 0).wellFormed = false := by decide
theorem test_reply_with_too_long_gaps : (Instr.replyEnd [1, 2, 3] 2).wellFormed = false := by decide
theorem test_overlong_without_bytes : (Instr.slotEndOverlong []).wellFormed = false := by decide
theorem test_quieting_ends_at_once : (Instr.quietingEnd 0).wellFormed = false := by decide
theorem test_quieting_past_bound : (Instr.quietingEnd 17).wellFormed = false := by decide
theorem test_wellFormed_kept : (Instr.quietingEnd 16).wellFormed = true ∧ (Instr.replyBegin 40).wellFormed = true := by
  decide

/-! ### Words -/

/-- No row of the table gives bits, so no word spells a command. -/
theorem test_no_word_spells_a_command : decodeTableWord 16 0x0103 = none := rfl

/-! ### Values worked in the spec -/

/-- The check value of R182: the CRC of the nine ASCII digits 1 to 9 is 0xAEE7. -/
theorem test_crc_check_value :
    crc16 [0x31, 0x32, 0x33, 0x34, 0x35, 0x36, 0x37, 0x38, 0x39] = 0xAEE7#16 := by decide +kernel

/-- The empty response begins 0x00, 0x01, 0x00, 0x00 (R185). -/
theorem test_empty_response : emptyResponse.take 4 = [0, 1, 0, 0] ∧ emptyResponse.length = 6 := by decide +kernel

/-- With default C and A the budget is 832 (Table 2-4's defaults, R27). -/
theorem test_default_budget : State.reset.trunk.appliedBudget = 832 := by decide

/-- After reset the status byte shows IDLE with every flag clear (R165, Table 12-5). -/
theorem test_status_after_reset : State.reset.statusByte .a = 0x80 := by decide +kernel

/-- Section 2.8, steps 3 and 5: ANY takes phase 0 of period 2 at 182, and later phase 1 at 267. -/
theorem test_phase_any :
    choosePhase (Vector.ofFn fun k => if k.val % 4 = 1 then 122 else 37) 2 (slotCost 4 128) = 0 ∧
    choosePhase (Vector.ofFn fun k => if k.val % 2 = 0 then 182 else if k.val % 4 = 1 then 122 else 37) 2
      (slotCost 4 128) = 1 := by
  decide +kernel

/-- Section 3.8, step 7: a value of 40 bytes takes blocks 0, 1, 16 and 17, and byte 35 of the second half lies at offset 3
of block 17. -/
theorem test_allocation :
    ([0, 1, 16, 17, 18] : List Block).take (blocksNeeded 40) = [0, 1, 16, 17] ∧
    byteAddress [0, 1, 16, 17] .second 35 = some (32 * 17 + 3) := by
  decide +kernel

/-- Section 5.13, cases a and c: replies of 26 and 30 bytes that begin at 9 and at 7 end at 35 and at 37. -/
theorem test_reply_moments :
    replyEndMoment (.collect 0 20 true false) 9 (withCrc ([1, 0x20, 0x81, 20] ++ List.replicate 20 0)) 0 = 35 ∧
    judgeReply ⟨.collect 0 20 true false, 0, 7, 37⟩ (withCrc ([1, 0x20, 0x81, 20] ++ List.replicate 20 0)) = .ok ∧
    replyEndMoment (.collect 0 20 true false) 7 (withCrc ([1, 0x20, 0x81, 24] ++ List.replicate 24 0)) 0 = 37 ∧
    judgeReply ⟨.collect 0 20 true false, 0, 7, 37⟩ (withCrc ([1, 0x20, 0x81, 24] ++ List.replicate 24 0)) = .badLength := by
  decide +kernel

/-- Section 2.8, step 1: the stream is admitted at handle 0 and phase 0, ACTIVE, and every entry becomes 37. -/
theorem test_open_stream :
    (match exec (.openStream .a) (asked .openStream [1, 0, 0, 1, 0, 20, 0, 0, 0, 0] State.reset) with
      | .next t => (t.ports.a.state, t.table.load)
      | _ => (.idle, State.reset.table.load)) =
    (.resultReady (resultFrame 7 .ok [0, 0, 0]), Vector.replicate 128 37) := by
  decide +kernel

/-! ### Witnesses: the machine and its invariants -/

theorem keyFree_of_findKey {s : State} {n : Node} {ch : Nat} {d : Direction} (h : s.findKey n ch d = none) :
    keyFree s n ch d := by
  intro k r hr hk
  have := List.find?_eq_none.mp h k (List.mem_finRange k)
  simp_all [StreamRecord.hasKey]

/-- A front command, and an empty queue (StepRunsFrontCommand). -/
theorem witness_step :
    ({ State.reset with pending := [.guardStart] } : State).pending = .guardStart :: [] ∧ State.reset.pending = [] :=
  ⟨rfl, rfl⟩

theorem entriesOnce_of (s : State) (h : (s.sched.entries.map ServiceEntry.handle).Nodup) : s.EntriesOnce := h

/-- A CLOSING record with its exchange in flight, its close parked, and the exchange about to end unanswered. -/
def closing : State :=
  let s := running .cyclic (one { collect with state := .closing })
  { s with
    engine := ⟨.awaiting (exchange (.collect 0 8 false true)), []⟩
    arbiter := ⟨[], some ⟨.close 0 false, .a, 7, false⟩⟩
    ports := s.ports.put .a { s.ports.a with state := .working }
    sched := ⟨[], [], [⟨0, 1, .excused⟩]⟩
    pending := [.exchangeTimeout] }

theorem closing_poolTrue : closing.PoolTrue := by
  have h := one_poolTrue { collect with state := .closing } 2 rfl rfl (by decide) rfl
  exact ⟨h.partition, h.ascending, h.sized, h.bare⟩

theorem closing_loadTrue : closing.LoadTrue := by
  have h := one_loadTrue { collect with state := .closing } rfl (by decide)
  exact ⟨h.sums, h.within, h.bare, by decide⟩

theorem closing_flightSound : closing.FlightSound := by
  refine ⟨⟨by unfold inTable; decide, by decide, by decide, by decide, by rintro g ⟨⟩⟩, fun _ => rfl, ?_⟩
  rintro x ⟨⟩
  decide

theorem closing_portsSound : closing.PortsSound := by
  refine ⟨?_, ?_, ⟨rfl, _, one_record _ 0, rfl⟩⟩
  · intro p
    cases p <;> decide +kernel
  · rintro (_ | _) _ _ ⟨⟩

theorem closing_leasesSound : closing.LeasesSound := by
  refine ⟨?_, ?_, ?_⟩
  · intro h r e
    obtain ⟨-, rfl⟩ := one_only e
    exact (by decide : 16 ≤ 65535 ∧ 65535 ≤ 65535 ∧ 1 ≤ 65535 ∧ 65535 ≤ 65535)
  · intro h r am l e ha
    obtain ⟨-, rfl⟩ := one_only e
    cases ha
  · intro h r e _
    obtain ⟨rfl, -⟩ := one_only e
    rfl

/-- One state that meets the invariants together and steps (StepKeepsMemoryCanonical, StepKeepsKeysAndCounts,
StepKeepsBlockPartition, StepKeepsLoadMap, StepKeepsQueue, StepKeepsFlightSound, StepKeepsPortsSound,
StepKeepsLeasesSound). -/
theorem witness_invariants :
    closing.store.mem.wf = true ∧ closing.KeysDistinct ∧ closing.CountsTrue ∧ closing.EntriesOnce ∧ closing.PoolTrue ∧ closing.LoadTrue ∧
    closing.QueueTrue ∧ closing.FlightSound ∧ closing.PortsSound ∧ closing.LeasesSound ∧ ∃ t, step closing = .next t := by
  refine ⟨rfl, one_keysDistinct _, by unfold State.CountsTrue; decide +kernel, entriesOnce_of _ (by decide), closing_poolTrue,
    closing_loadTrue, ⟨by decide, ?_⟩, closing_flightSound,
    closing_portsSound, closing_leasesSound, _, rfl⟩
  intro id
  have hq : closing.acyclic.queue = [] := rfl
  have hn : closing.request id = none := Vector.getElem_replicate _
  rw [hq, hn]
  simp

/-! ### Witnesses: stream commands -/

/-- A plain command that port A has in hand (CommandRefusedAnsweredOrParked). -/
theorem witness_plainCommand :
    (Instr.setAttnMask .a, CommandName.setAttnMask) ∈ plainCommands .a ∧
    (asked .setAttnMask [0x3F, 0xFF] State.reset).IsNext .a .setAttnMask ⟨.a, 20, 7, [0x3F, 0xFF]⟩ [] :=
  ⟨by simp [plainCommands], asked_isNext _ _ _⟩

/-- An OPEN_STREAM body: node 62, channel 15, DELIVER, period 128, phase 127, 128 bytes, 3 retries, lease 16. -/
def openBody : List Byte := [62, 15, 1, 128, 127, 128, 3, 0, 0, 16]

def openArgs : OpenArgs := ⟨62, 15, .deliver, 128, .fixed 127, 128, 3, none, some 16⟩

/-- Every Load Map entry at a value, and `n` free blocks. -/
def loaded (e n : Nat) (s : State) : State :=
  { s with table := { s.table with load := Vector.replicate 128 e }, store := { s.store with free := s.store.free.take n } }

/-- An identity held for node 62. -/
def identified (channels largest : Nat) (s : State) : State :=
  { s with roster := s.roster.set 61 ⟨.present, some ⟨1, channels, largest⟩, 0, 0⟩ }

/-- An OPEN_STREAM that just fits: the last channel and length its node has, the last blocks, the last byte-time of the
budget (OpenCreatesRecord). -/
theorem witness_openCreates :
    let s := asked .openStream openBody (identified 16 128 (loaded 687 8 State.reset))
    s.IsNext .a .openStream ⟨.a, 1, 7, openBody⟩ [] ∧ readOpen openBody = some openArgs ∧ openArgs.inRange = true ∧
    nodeOf? 62 = some 61 ∧ identityAllows (s.node 61) 15 128 ∧ keyFree s 61 15 .deliver ∧ handleTaken s 0 ∧
    blocksNeeded 128 ≤ s.store.free.length ∧
    chargeFits s.table.load 128 (openPhase s openArgs) (13 + 128 + s.trunk.applied.w) s.trunk.admissionLimit := by
  refine ⟨asked_isNext _ _ _, by decide +kernel, by decide, rfl, ?_, keyFree_of_findKey (by decide +kernel),
    ⟨by decide +kernel, .inl ⟨by decide +kernel, by decide +kernel⟩⟩, by decide +kernel, by unfold chargeFits; decide +kernel⟩
  rintro i ⟨⟩
  decide

/-- All 64 records live, with one key. -/
def full : State := { State.reset with table := { State.reset.table with records := Vector.replicate 64 (some stream) } }

/-- Each refusal of OPEN_STREAM (OpenChecksInOrder). -/
theorem witness_openChecks :
    readOpen (openBody ++ [0]) = none ∧
    (readOpen [63, 15, 1, 128, 127, 128, 3, 0, 0, 16] = some { openArgs with node := 63 } ∧
      ({ openArgs with node := 63 } : OpenArgs).inRange = false) ∧
    ¬identityAllows ((identified 15 128 State.reset).node 61) 15 128 ∧
    ¬keyFree (one { stream with node := 61, channel := 15 }) 61 15 .deliver ∧
    (keyFree full 61 15 .deliver ∧ ∀ h, full.record h ≠ none) ∧
    (State.reset.record 63 = none ∧ (loaded 0 7 State.reset).store.free.length < blocksNeeded 128) ∧
    ¬chargeFits (loaded 688 8 State.reset).table.load 128 127 (13 + 128 + 4) 832 := by
  refine ⟨rfl, ⟨by decide +kernel, by decide⟩, ?_, ?_, ⟨keyFree_of_findKey (by decide +kernel), by decide +kernel⟩,
    ⟨by decide +kernel, by decide +kernel⟩, by unfold chargeFits; decide +kernel⟩
  · intro h
    exact absurd (h _ rfl).1 (by decide)
  · intro h
    exact h 0 _ (one_record _ 0) ⟨rfl, rfl, rfl⟩

/-- The smallest and the largest period (PhaseAnyIsLeastLoaded). -/
theorem witness_periods : 1 ∈ periods ∧ 128 ∈ periods := by decide

/-- Each refusal of a command on a stream (StreamCommandRefusals). -/
theorem witness_streamRefusals :
    (Instr.closeStream .a, CommandName.closeStream) ∈ ownerCommands .a ∧ handleByte .closeStream [] = none ∧
    (handleByte .closeStream [63] = some 63 ∧ ∀ h : Handle, h.val = (63 : Byte).toNat → State.reset.record h = none) ∧
    (handleByte .closeStream [64] = some 64 ∧ ∀ h : Handle, h.val ≠ (64 : Byte).toNat) ∧
    (handleByte .closeStream [0] = some 0 ∧ (one { stream with owner := .b }).record 0 = some { stream with owner := .b } ∧
      Port.b ≠ .a) ∧
    (closing.record 0 = some { collect with state := .closing } ∧ collect.owner = .a) := by
  refine ⟨by simp [ownerCommands], rfl, ⟨rfl, by decide +kernel⟩, ⟨rfl, by decide⟩, ⟨rfl, one_record _ 0, by decide⟩,
    one_record _ 0, rfl⟩

/-- An AMEND_STREAM body for handle 0 that names period, phase and length. -/
def amendBody (period phase len : Byte) : List Byte := [0, 7, period, phase, len, 0, 0, 0, 0]

def amendArgs (period : Nat) (phase : Nat) (len : Nat) : AmendArgs :=
  ⟨0, some period, some (.fixed phase), some len, none, none, none⟩

theorem releasedFrom_self (s : State) (h : Handle) (r : StreamRecord) (hr : s.record h = some r) (ha : r.amendment = none) :
    releasedFrom s h r s := by
  refine ⟨rfl, by rw [hr, ← ha], fun _ _ => rfl, fun k => by simp [ha], fun b => ?_, State.PoolTrue.ascending⟩
  simp [ha]

/-- AMEND_STREAM on a record without an amendment, with the operands of each clause (AmendStream). -/
theorem witness_amend :
    let r := { stream with node := 61 }
    let s := asked .amendStream (amendBody 2 1 128) (one r)
    s.IsNext .a .amendStream ⟨.a, 2, 7, amendBody 2 1 128⟩ [] ∧
    readAmend (amendBody 2 1 128) = some (amendArgs 2 1 128) ∧ (amendArgs 2 1 128).handle.toNat = (0 : Handle).val ∧
    s.record 0 = some r ∧ r.owner = .a ∧ r.state ≠ .closing ∧ releasedFrom s 0 r s ∧
    (amendArgs 2 2 128).inRange r.params = false ∧ (amendArgs 2 1 128).inRange r.params = true ∧
    (¬∀ i, ((identified 16 127 s).node 61).identity = some i → 128 ≤ i.largest) ∧
    (∀ i, (s.node 61).identity = some i → 128 ≤ i.largest) ∧
    (loaded 25 7 s).store.free.length < amendmentNeeds r.params (amendedParams (amendArgs 2 1 128) r.params s.table.load 4) ∧
    8 ≤ (loaded 25 8 s).store.free.length ∧
    ¬chargeFits (loaded 688 8 s).table.load 2 1 (13 + 128 + 4) 832 ∧
    chargeFits (loaded 687 8 s).table.load 2 1 (13 + 128 + 4) 832 := by
  have hr := one_record { stream with node := 61 } 0
  refine ⟨asked_isNext _ _ _, by decide +kernel, rfl, hr, rfl, by decide, releasedFrom_self _ _ _ hr rfl, by decide,
    by decide, ?_, ?_, by decide +kernel, by decide +kernel, by unfold chargeFits; decide +kernel,
    by unfold chargeFits; decide +kernel⟩
  · intro h
    exact absurd (h _ rfl) (by decide)
  · rintro i ⟨⟩

/-- QUIETING since a slot end at 145. -/
def quieting (phase : Phase) (s : State) : State :=
  { running phase s with engine := ⟨.quieting 145, []⟩, trunk := { (running phase s).trunk with clock := 145 } }

/-- The record at handle 0 WAITING on the due list. -/
def waiting (s : State) : State := { s with sched := ⟨[0], [], [⟨0, 0, .waiting⟩]⟩ }

/-- A record that CYCLIC waits for while the engine is QUIETING, and one whose exchange is in flight (CloseStream). -/
theorem witness_close :
    let s := asked .closeStream [0] (waiting (quieting .cyclic (one stream)))
    let t := asked .closeStream [0] { one stream with engine := ⟨.awaiting (exchange (.hold 0 8 false true)), []⟩ }
    s.EntriesOnce ∧ s.IsNext .a .closeStream ⟨.a, 3, 7, [0]⟩ [] ∧ s.record 0 = some stream ∧ s.recordInFlight 0 = false ∧
    t.EntriesOnce ∧ t.IsNext .a .closeStream ⟨.a, 3, 7, [0]⟩ [] ∧ t.record 0 = some stream ∧ t.recordInFlight 0 = true :=
  ⟨entriesOnce_of _ (by decide), asked_isNext _ _ _, one_record _ 0, rfl, entriesOnce_of _ (by decide), asked_isNext _ _ _,
    one_record _ 0, rfl⟩

/-- The last WAITING record closed while the engine is QUIETING ends CYCLIC and RETRY at once (R97, R98, R106). -/
theorem test_close_ends_cyclic :
    (match exec (.closeStream .a) (asked .closeStream [0] (waiting (quieting .cyclic (one stream)))) with
      | .next t => t.trunk.phase
      | _ => .idle) = .over := by
  decide +kernel

/-- READ_STREAM of a record of either port, with each flag, of no record and of another form (ReadStream). -/
theorem witness_readStream :
    (∀ body, (asked .readStream body (one stream)).IsNext .a .readStream ⟨.a, 4, 7, body⟩ []) ∧
    (one stream).record 0 = some stream ∧ stream.owner = .a ∧
    (one { stream with owner := .b }).record 0 = some { stream with owner := .b } ∧ 1 < (2 : Byte).toNat ∧
    (1 : Byte).toNat ≤ 1 ∧ (∀ h : Handle, h.val ≠ (64 : Byte).toNat) ∧
    ([0] : List Byte).length ≠ 2 ∧ ([0, 0, 0] : List Byte).length ≠ 2 :=
  ⟨fun _ => asked_isNext _ _ _, one_record _ 0, rfl, one_record _ 0, by decide, by decide, by decide, by decide, by decide⟩

/-- A key that is held and one that is not, at the ends of the ranges and outside them (FindStream). -/
theorem witness_find :
    (∀ body, (asked .findStream body (one stream)).IsNext .a .findStream ⟨.a, 5, 7, body⟩ []) ∧
    (one stream).KeysDistinct ∧ (1 : Byte).toNat = (0 : Node).val + 1 ∧ (62 : Byte).toNat = (61 : Node).val + 1 ∧
    (0 : Byte).toNat < 1 ∧ 62 < (63 : Byte).toNat ∧ (15 : Byte).toNat ≤ 15 ∧ 15 < (16 : Byte).toNat ∧ 1 < (2 : Byte).toNat ∧
    (one stream).record 0 = some stream ∧ stream.node = 0 ∧ stream.channel = (0 : Byte).toNat ∧
    stream.direction = .deliver ∧ keyFree (one stream) 61 (15 : Byte).toNat .deliver ∧ ([1, 0] : List Byte).length ≠ 3 :=
  ⟨fun _ => asked_isNext _ _ _, one_keysDistinct _, rfl, rfl, by decide, by decide, by decide, by decide, by decide,
    one_record _ 0, rfl, rfl, rfl, keyFree_of_findKey (by decide +kernel), by decide⟩

/-- POST_VALUE on a COLLECT record, with a wrong and with the right length (PostValue). -/
theorem witness_post :
    (one stream).PoolTrue ∧ (one stream).store.mem.wf = true ∧
    (asked .postValue (0 :: List.replicate 8 5) (one stream)).IsNext .a .postValue ⟨.a, 6, 7, 0 :: List.replicate 8 5⟩ [] ∧
    (one stream).record 0 = some stream ∧ stream.direction = .deliver ∧
    (one collect).record 0 = some collect ∧ collect.direction = .collect ∧
    ([] : List Byte).length ≠ stream.params.len ∧ (List.replicate 8 (5 : Byte)).length = stream.params.len :=
  ⟨one_poolTrue stream 2 rfl rfl (by decide) rfl, rfl, asked_isNext _ _ _, one_record _ 0, rfl, one_record _ 0, rfl,
    by decide, by decide⟩

/-- RENEW_LEASES with and without a body (RenewLeases). -/
theorem witness_renew :
    (asked .renewLeases [] (one stream)).IsNext .a .renewLeases ⟨.a, 7, 7, []⟩ [] ∧
    (asked .renewLeases [0] (one stream)).IsNext .a .renewLeases ⟨.a, 7, 7, [0]⟩ [] ∧ ([0] : List Byte) ≠ [] :=
  ⟨asked_isNext _ _ _, asked_isNext _ _ _, by decide⟩

/-- RESTART_STREAM of no record, of the other port's, of an ACTIVE one and of FAULTED ones (RestartStream). -/
theorem witness_restart :
    (asked .restartStream [0] (one stream)).IsNext .a .restartStream ⟨.a, 8, 7, [0]⟩ [] ∧
    (∀ h : Handle, h.val ≠ (64 : Byte).toNat) ∧
    (one { stream with owner := .b }).record 0 = some { stream with owner := .b } ∧
    (one stream).record 0 = some stream ∧ stream.state ≠ .faulted ∧
    (one { stream with state := .faulted }).record 0 = some { stream with state := .faulted } :=
  ⟨asked_isNext _ _ _, by decide, one_record _ 0, one_record _ 0, by decide, one_record _ 0⟩

/-! ### Witnesses: request, roster, trunk and attention commands -/

/-- The shortest write and the longest read, with an id FREE and with none, and each refused form (SendRequest). -/
theorem witness_send :
    (∀ body, (asked .sendRequest body State.reset).IsNext .a .sendRequest ⟨.a, 10, 7, body⟩ []) ∧
    State.reset.store.mem.wf = true ∧ [(9 : Byte)].length = word16 0 1 ∧ 1 ≤ word16 0 1 ∧ word16 1 0 ≤ 256 ∧
    (62 : Byte).toNat = (61 : Node).val + 1 ∧ (1 : Byte).toNat = (0 : Node).val + 1 ∧
    State.reset.request 0 = none ∧ (∀ j : ReqId, j < 0 → State.reset.request j ≠ none) ∧
    (∀ j : ReqId, ({ State.reset with acyclic := { State.reset.acyclic with
      requests := Vector.replicate 8 (some (request .failed)) } } : State).request j ≠ none) ∧
    ([0, 1, 0, 0, 0] : List Byte).length < 6 ∧ 1 < (2 : Byte).toNat ∧ (0 : Byte).toNat < 1 ∧ 62 < (63 : Byte).toNat ∧
    word16 0 0 < 1 ∧ 256 < word16 1 1 ∧ ([9] : List Byte) ≠ [] ∧ ([] : List Byte).length ≠ word16 0 1 :=
  ⟨fun _ => asked_isNext _ _ _, rfl, rfl, by decide, by decide, rfl, rfl, rfl, by decide, by decide +kernel, by decide,
    by decide, by decide, by decide, by decide, by decide, by decide, by decide⟩

theorem withRequest_queueTrue (st : ReqState) : (withRequest (request st) State.reset).QueueTrue := by
  have hr : ∀ id, (withRequest (request st) State.reset).request id = if id = 0 then some (request st) else none := by
    intro id
    simp only [withRequest, State.request, State.reset, AcyclicScheduler.reset, Vector.getElem_set,
      Vector.getElem_replicate, Fin.ext_iff]
    rcases id with ⟨_ | id, h⟩ <;> simp
  constructor
  · cases st <;> decide
  · intro id
    rw [hr]
    by_cases h : id = 0 <;> cases st <;> simp [withRequest, request, h]

/-- FETCH_REQUEST of another port's request, of one that goes on and of ones that have ended (FetchRequest). -/
theorem witness_fetch :
    (∀ st, (asked .fetchRequest [0] (withRequest (request st) State.reset)).IsNext .a .fetchRequest ⟨.a, 11, 7, [0]⟩ []) ∧
    (∀ st, (withRequest (request st) State.reset).QueueTrue) ∧
    (∀ st, (withRequest (request st) State.reset).request 0 = some (request st)) ∧
    (request .cancelling).owner = .a ∧ (request .cancelling).state ≠ .done ∧ (request .cancelling).state ≠ .failed ∧
    (request .done).state = .done ∧ (request .failed).state = .failed ∧ ({ request .done with owner := .b }).owner ≠ .a :=
  ⟨fun _ => asked_isNext _ _ _, withRequest_queueTrue, fun _ => rfl, rfl, by decide, by decide, rfl, rfl, by decide⟩

/-- Bodies and ids that the two request commands refuse, at the ends of the ids (FetchRequest, CancelRequest). -/
theorem witness_idRefusals :
    ([] : List Byte).length ≠ 1 ∧ ([7, 7] : List Byte).length ≠ 1 ∧ 7 < (8 : Byte).toNat ∧
    (7 : Byte).toNat = (7 : ReqId).val ∧ State.reset.request 7 = none := ⟨by decide, by decide, by decide, rfl, rfl⟩

/-- CANCEL_REQUEST of a request in each situation, the last that ACYCLIC can serve among them (CancelRequest). -/
theorem witness_cancel :
    let s := asked .cancelRequest [0] (quieting .pieces (withRequest (request .active) State.reset))
    let t := { s with engine := ⟨.awaiting (exchange (.piece 0 .write 32 8)), []⟩ }
    s.EntriesOnce ∧ s.IsNext .a .cancelRequest ⟨.a, 12, 7, [0]⟩ [] ∧ s.request 0 = some (request .active) ∧
    (request .active).owner = .a ∧ (request .active).state ≠ .cancelling ∧ s.requestInFlight 0 = false ∧
    t.EntriesOnce ∧ t.IsNext .a .cancelRequest ⟨.a, 12, 7, [0]⟩ [] ∧ t.request 0 = some (request .active) ∧
    t.requestInFlight 0 = true ∧
    (request .cancelling).state = .cancelling ∧ ({ request .queued with owner := .b }).owner ≠ .a :=
  ⟨entriesOnce_of _ (by decide), asked_isNext _ _ _, rfl, rfl, by decide, rfl, entriesOnce_of _ (by decide),
    asked_isNext _ _ _, rfl, rfl, rfl, by decide⟩

/-- Addresses outside the range and at its ends, and SCAN_NODES, with a body and without (ReadNode, ScanNodes). -/
theorem witness_roster :
    (∀ body, (asked .readNode body State.reset).IsNext .a .readNode ⟨.a, 13, 7, body⟩ []) ∧ (0 : Byte).toNat < 1 ∧
    62 < (63 : Byte).toNat ∧ (1 : Byte).toNat = (0 : Node).val + 1 ∧ (62 : Byte).toNat = (61 : Node).val + 1 ∧
    ([] : List Byte).length ≠ 1 ∧
    (∀ body, (asked .scanNodes body State.reset).IsNext .a .scanNodes ⟨.a, 14, 7, body⟩ []) ∧ ([0] : List Byte) ≠ [] :=
  ⟨fun _ => asked_isNext _ _ _, by decide, by decide, rfl, rfl, by decide, fun _ => asked_isNext _ _ _, by decide⟩

/-- START_TRUNK stopped, on a quiet and on a busy line, not stopped, and with a body (StartTrunk). -/
theorem witness_start :
    let s := asked .startTrunk [] State.reset
    let t := { s with pins := { s.pins with rxBusy := true } }
    s.IsNext .a .startTrunk ⟨.a, 15, 7, []⟩ [] ∧ s.trunk.state = .off ∧ s.trunk.staged = none ∧ s.lineBusy = false ∧
    t.IsNext .a .startTrunk ⟨.a, 15, 7, []⟩ [] ∧ t.lineBusy = true ∧ t.engine.state.inFlight = none ∧
    (asked .startTrunk [] (running .over State.reset)).trunk.state = .running ∧
    (asked .startTrunk [0] State.reset).IsNext .a .startTrunk ⟨.a, 15, 7, [0]⟩ [] ∧ ([0] : List Byte) ≠ [] :=
  ⟨asked_isNext _ _ _, rfl, rfl, rfl, asked_isNext _ _ _, rfl, rfl, rfl, asked_isNext _ _ _, by decide⟩

/-- SYNCING, between marks. -/
def syncing (sent : Nat) (s : State) : State :=
  { s with trunk := { s.trunk with state := .syncing, marksSent := sent, timer := some 1000, clock := 8 } }

/-- The same with a mark in transmission. -/
def marking (sent : Nat) (s : State) : State :=
  { syncing sent s with pins := { s.pins with tx := some [63] }, trunk := { (syncing sent s).trunk with clock := 0 } }

/-- HALT_TRUNK in RUNNING, in SYNCING with and without a mark in transmission, where it is refused, and with a body
(HaltTrunk). -/
theorem witness_halt :
    (∀ body s, (asked .haltTrunk body s).IsNext .a .haltTrunk ⟨.a, 16, 7, body⟩ []) ∧ State.reset.trunk.state = .off ∧
    (running .over State.reset).trunk.state = .running ∧ (syncing 1 State.reset).trunk.state = .syncing ∧
    (syncing 1 State.reset).pins.tx = none ∧ (marking 1 State.reset).trunk.state = .syncing ∧
    (marking 1 State.reset).pins.tx ≠ none ∧ ([0] : List Byte) ≠ [] :=
  ⟨fun _ _ => asked_isNext _ _ _, rfl, rfl, rfl, rfl, rfl, by decide, by decide⟩

/-- A SET_CONFIG body that names C and A, and one that names all. -/
def configBody (names : Byte) (c a : Nat) (w : Byte) : List Byte := [names] ++ be16 c ++ be16 a ++ [w, 4, 32]

def configArgs (c a : Nat) : ConfigArgs := ⟨some c, some a, none, none, none⟩

/-- A DELIVER stream of 128 bytes in every cycle. -/
def large : StreamRecord := { stream with params := { stream.params with len := 128 }, blocks := [0, 1, 2, 3, 4, 5, 6, 7] }

/-- SET_CONFIG while stopped: a budget below 0, one a byte-time too small and one that just fits, and a new W
(SetConfigStopped). -/
theorem witness_configStopped :
    let s := asked .setConfig (configBody 3 250 232 4) (one large)
    s.LoadTrue ∧ s.IsNext .a .setConfig ⟨.a, 17, 7, configBody 3 250 232 4⟩ [] ∧ s.stopped = true ∧
    readSetConfig (configBody 3 250 233 4) = some (configArgs 250 233) ∧
    readSetConfig (configBody 31 250 102 40) = some ⟨some 250, some 102, some 40, some 4, some 32⟩ ∧
    (configArgs 250 233).inRange = true ∧ (configArgs 249 100).inRange = false ∧ 250 < 18 + 233 ∧
    recomputedFor s 4 s.table.load ∧ recomputedFor s 40 (Vector.ofFn fun k => s.table.load[k.val] + 36) ∧
    (¬∀ i : Fin 128, s.table.load[i.val] ≤ 250 - 18 - 100) ∧ (∀ i : Fin 128, s.table.load[i.val] ≤ 300 - 18 - 137) := by
  have hl := one_loadTrue large rfl (by decide)
  have hc : ∀ k, chargesAt (asked .setConfig (configBody 3 250 232 4) (one large)) k = 1 := fun k => by
    rw [chargesAt, ← handles, handles_split, List.map_cons]
    simp only [List.map_map, Function.comp_def]
    have h0 : (asked .setConfig (configBody 3 250 232 4) (one large)).record 0 = some large := one_record_zero _
    have hs : ∀ j : Fin 63, (asked .setConfig (configBody 3 250 232 4) (one large)).record j.succ = none :=
      one_record_succ _
    simp only [h0, hs]
    simp [large, stream, Nat.mod_one]
  refine ⟨⟨hl.sums, hl.within, hl.bare, fun _ => rfl⟩, asked_isNext _ _ _, rfl, by decide +kernel,
    by decide +kernel, by decide, by decide, by decide, ?_, ?_, by decide +kernel, by decide +kernel⟩
  · intro k
    rw [hc]
    rfl
  · intro k
    have hw : (asked .setConfig (configBody 3 250 232 4) (one large)).trunk.applied.w = 4 := rfl
    rw [hc, hw, Vector.getElem_ofFn]

/-- SET_CONFIG while the trunk runs, and bodies that fail the form check (SetConfigStages). -/
theorem witness_configStages :
    let s := asked .setConfig (configBody 3 300 137 4) (running .over (one large))
    s.IsNext .a .setConfig ⟨.a, 17, 7, configBody 3 300 137 4⟩ [] ∧ s.stopped = false ∧
    readSetConfig (configBody 3 300 137 4) = some (configArgs 300 137) ∧ (configArgs 300 137).inRange = true ∧
    (configArgs 300 137).w = none ∧ (∀ i : Fin 128, s.table.load[i.val] ≤ 300 - 18 - 137) ∧
    (¬∀ i : Fin 128, s.table.load[i.val] ≤ 300 - 18 - 138) ∧
    readSetConfig (configBody 4 300 137 4) = some ⟨none, none, some 4, none, none⟩ ∧
    (⟨none, none, some 4, none, none⟩ : ConfigArgs).inRange = true ∧
    readSetConfig (configBody 3 300 137 4 ++ [0]) = none ∧ readSetConfig (configBody 32 300 137 4) = none :=
  ⟨asked_isNext _ _ _, rfl, by decide +kernel, by decide, rfl, by decide +kernel, by decide +kernel, by decide +kernel,
    by decide, by decide +kernel, by decide +kernel⟩

/-- READ_LOAD at the ends of its ranges, READ_CONFIG, and bodies of another form (ReadLoadAndConfig). -/
theorem witness_readLoad :
    (∀ body, (asked .readLoad body State.reset).IsNext .a .readLoad ⟨.a, 9, 7, body⟩ []) ∧
    (∀ body, (asked .readConfig body State.reset).IsNext .a .readConfig ⟨.a, 18, 7, body⟩ []) ∧
    (127 : Byte).toNat ≤ 127 ∧ 127 < (128 : Byte).toNat ∧ (0 : Byte).toNat < 1 ∧ 1 ≤ (1 : Byte).toNat ∧
    (64 : Byte).toNat ≤ 64 ∧ 64 < (65 : Byte).toNat ∧ ([127] : List Byte).length ≠ 2 ∧ ([0] : List Byte) ≠ [] ∧
    (∀ k : Fin 128, State.reset.table.load[k.val] ≤ 0) ∧ ∃ k : Fin 128, State.reset.table.load[k.val] = 0 :=
  ⟨fun _ => asked_isNext _ _ _, fun _ => asked_isNext _ _ _, by decide, by decide, by decide, by decide, by decide,
    by decide, by decide, by decide, by decide +kernel, 0, by decide +kernel⟩

/-- READ_ATTN, SET_ATTN_MASK with bit 13 and with bit 14, and bodies of another form (ReadAttn, SetAttnMask). -/
theorem witness_attention :
    (∀ body, (asked .readAttn body State.reset).IsNext .a .readAttn ⟨.a, 19, 7, body⟩ []) ∧
    (∀ body, (asked .setAttnMask body State.reset).IsNext .a .setAttnMask ⟨.a, 20, 7, body⟩ []) ∧
    (63 : Byte).toNat < 64 ∧ 64 ≤ (64 : Byte).toNat ∧ ([0] : List Byte) ≠ [] ∧ ([63] : List Byte).length ≠ 2 :=
  ⟨fun _ => asked_isNext _ _ _, fun _ => asked_isNext _ _ _, by decide, by decide, by decide, by decide⟩

/-- Codes that name no command, and a defined one that waits at a port whose holder holds a BAD_COMMAND result
(BadCommand). -/
theorem witness_badCommand :
    let s := { State.reset with arbiter := ⟨[⟨.a, 21, 7, []⟩], none⟩ }
    let t := { State.reset with
      arbiter := ⟨[⟨.a, 20, 7, []⟩], none⟩
      ports := State.reset.ports.put .a { State.reset.ports.a with state := .resultReady (resultFrame 7 .badCommand []) } }
    s.arbiter.waiting = [⟨.a, 21, 7, []⟩] ∧ (0 : Byte).toNat < 1 ∧ 20 < (21 : Byte).toNat ∧
    t.arbiter.waiting = [⟨.a, 20, 7, []⟩] ∧ 1 ≤ (20 : Byte).toNat ∧ (20 : Byte).toNat ≤ 20 ∧ exec .guardStart t = .next t ∧
    (t.ports.get .a).state = .resultReady (resultFrame 7 .badCommand []) :=
  ⟨rfl, by decide, by decide, rfl, by decide, by decide, rfl, rfl⟩

/-! ### Witnesses: host ports -/

/-- A transaction in progress on port A, its kind byte not yet whole, with the port in a state. -/
def begun (st : PortState) : State :=
  { State.reset with ports := ⟨{ HostPort.reset with state := st, txn := .active 0x80 none }, .reset⟩ }

/-- SEL high, and a transaction begun in each port state, RESULT_READY too, in which the empty response may stand
(SelFalls, ResultTransaction, PortReset); the longest part of a byte left incomplete (SelFalls). -/
theorem witness_transactions :
    (State.reset.ports.get .a).txn = .high ∧ (∀ st, ((begun st).ports.get .a).txn = .active 0x80 none) ∧
    (∀ st, ((begun st).ports.get .a).state = st) ∧ (begun .idle).EntriesOnce ∧ (List.replicate 7 true).length < 8 :=
  ⟨rfl, fun _ => rfl, fun _ => rfl, entriesOnce_of _ (by decide), by decide⟩

/-- The status byte 0x80 leaves SDO as 1 and then seven 0s, a fill byte follows, and eight levels of SDI make the kind byte
COMMAND, 0x5A (R154, R166, Tables 12-4 and 12-5). -/
theorem test_bits_of_a_transaction :
    ((List.range 9).map ((begun .idle).sdo .a) = [some true, some false, some false, some false, some false, some false, some false,
      some false, some false]) ∧
    sampledBytes [false, true, false, true, true, false, true, false, true] = [0x5A] := by
  decide +kernel

theorem not_carries_nil (code tag : Byte) (body : List Byte) : ¬carries [] code tag body := by
  rintro ⟨hi, lo, extra, -, -, e⟩
  simp [withCrc] at e

/-- The shortest and the longest command frame, bytes that are not taken, and a transaction that a device reset discarded
(CommandTransaction). -/
theorem witness_commandTransaction :
    (({ State.reset with ports := ⟨{ HostPort.reset with txn := .discarded }, .reset⟩ }).ports.get .a).txn = .discarded ∧
    carries (withCrc [7, 1, 0, 0] ++ [9]) 7 1 [] ∧
    carries (withCrc (6 :: 1 :: 1 :: 8 :: List.replicate 264 0)) 6 1 (List.replicate 264 0) ∧
    (∀ code tag body, ¬carries [] code tag body) ∧
    ((0 : Byte) ≠ 0x5A ∧ (0 : Byte) ≠ 0xA5 ∧ (0 : Byte) ≠ 0x3C) ∧
    (∀ extra : List Byte, [0xC3] ≠ 0xC3 :: 0x69 :: extra) ∧ ∀ extra : List Byte, [0xC3, 0x68] ≠ 0xC3 :: 0x69 :: extra :=
  ⟨rfl, ⟨0, 0, [9], rfl, by decide, rfl⟩, ⟨1, 8, [], by decide +kernel, by decide +kernel, (List.append_nil _).symm⟩, not_carries_nil,
    by decide, by simp, by simp⟩

/-! ### Witnesses: marks, halts and faults -/

theorem quiet_portsSound (s : State) (hp : s.ports = State.reset.ports) (ha : s.arbiter = State.reset.arbiter) :
    s.PortsSound := by
  refine ⟨?_, ?_, ?_⟩
  · rintro (_ | _) <;> simp only [State.inHand, hp, ha] <;> rfl
  · rintro (_ | _) _ _ e <;> rw [hp] at e <;> cases e
  · rw [State.ParkedSound, ha]
    trivial

/-- A stray byte is in reception. -/
def busy (s : State) : State := { s with pins := { s.pins with rxBusy := true } }

/-- DRAINING, with the timer at C. -/
def draining (s : State) : State := { running .over s with trunk := { (running .over s).trunk with state := .draining } }

/-- Each way into FAULTED, with a reply in reception, in QUIETING and with neither (TrunkFaults, DeviceReset). -/
theorem witness_faults :
    (State.reset.PortsSound ∧ State.reset.stopped = true) ∧
    ((running .over State.reset).PortsSound ∧ (running .over State.reset).stopped = false) ∧
    (let s := receiving (.piece 0 .read 0 32) (running .pieces State.reset)
     s.PortsSound ∧ s.stopped = false ∧ s.engine.state = .receiving (exchange (.piece 0 .read 0 32)) 121 ∧
      (replyPayload (.piece 0 .read 0 32) [1, 0x22, 1, 0, 32, 9, 9]) = [9, 9]) ∧
    (let s := busy (running .over State.reset)
     s.PortsSound ∧ s.engine.state = .idle ∧ s.lineBusy = true ∧ s.cycleMarkDue = true) ∧
    (let s := busy (syncing 3 State.reset)
     s.PortsSound ∧ s.lineBusy = true ∧ s.trunk.state = .syncing ∧ s.trunk.marksSent < 4 ∧ s.timerDue = true ∧
      s.engine.state = .idle) ∧
    (let s := busy (draining State.reset)
     s.PortsSound ∧ s.engine.state = .idle ∧ s.lineBusy = true ∧ s.trunk.state = .draining ∧ s.timerDue = true) ∧
    (let s := quieting .pieces State.reset
     s.PortsSound ∧ s.engine.state = .quieting 145 ∧ s.inCycle = true ∧ s.reaches (145 + 16) = true) :=
  ⟨⟨quiet_portsSound _ rfl rfl, rfl⟩, ⟨quiet_portsSound _ rfl rfl, rfl⟩,
    ⟨quiet_portsSound _ rfl rfl, rfl, rfl, by decide +kernel⟩, ⟨quiet_portsSound _ rfl rfl, rfl, rfl, rfl⟩,
    ⟨quiet_portsSound _ rfl rfl, rfl, rfl, by decide, rfl, rfl⟩, ⟨quiet_portsSound _ rfl rfl, rfl, rfl, rfl, rfl⟩,
    ⟨quiet_portsSound _ rfl rfl, rfl, rfl, rfl⟩⟩

/-- The bytes of a reply that arrived before LFAULT are placed, and the node that may go on sending keeps the line busy (R58,
R84, R87, R90). -/
theorem test_lfault_places_arrived_bytes :
    let s := receiving (.piece 0 .read 32 16) (running .pieces State.reset)
    (match exec .lfaultAsserted s with
      | .next t => t.store.mem = (s.storeBytes (areaAddrs 0 32 16)
          (replyPayload (.piece 0 .read 32 16) (Config.arrivedBytes 0))).store.mem ∧ t.lineBusy = true
      | _ => False) := ⟨rfl, rfl⟩

/-- The fourth restart mark due, a mark in transmission, and a drain's end, on a quiet line (RestartMarksAndHalts). -/
theorem witness_restartMarks :
    (let s := syncing 3 State.reset
     s.trunk.state = .syncing ∧ s.trunk.marksSent < 4 ∧ s.timerDue = true ∧ s.lineBusy = false) ∧
    ((marking 4 State.reset).trunk.state = .syncing ∧ (marking 4 State.reset).pins.tx ≠ none) ∧
    (let s := draining State.reset; s.trunk.state = .draining ∧ s.timerDue = true ∧ s.lineBusy = false) :=
  ⟨⟨rfl, by decide, rfl, rfl⟩, ⟨rfl, by decide⟩, ⟨rfl, rfl, rfl⟩⟩

/-- The cycle mark due in RUNNING and after the fourth restart mark, on a quiet line (CycleMarkOpensCycle). -/
theorem witness_cycleMark :
    (running .over State.reset).cycleMarkDue = true ∧ (running .over State.reset).lineBusy = false ∧
    (syncing 4 State.reset).cycleMarkDue = true ∧ (syncing 4 State.reset).lineBusy = false := ⟨rfl, rfl, rfl, rfl⟩

theorem one_leasesSound (r : StreamRecord) (hs : r.state ≠ .closing) (hp : leasePair r.params.lease r.leaseRemaining)
    (ha : ∀ am, r.amendment = some am → am.params.lease = none) : (running .over (one r)).LeasesSound := by
  refine ⟨?_, ?_, ?_⟩
  · intro h q e
    obtain ⟨-, rfl⟩ := one_only e
    exact hp
  · intro h q am l e hq hl
    obtain ⟨-, rfl⟩ := one_only e
    rw [ha am hq] at hl
    cases hl
  · intro h q e hc
    obtain ⟨-, rfl⟩ := one_only e
    exact absurd hc hs

/-- A pending amendment that keeps the length. -/
def pendingAmendment : Amendment := ⟨⟨2, 1, 8, 0, none, none⟩, none⟩

/-- A record with a pending amendment, one whose lease runs out and one whose lease goes on, at a cycle mark
(CycleMarkUpdatesRecords). -/
theorem witness_markRecords :
    (∀ r, (running .over (one r)).cycleMarkDue = true ∧ (running .over (one r)).lineBusy = false ∧
      (running .over (one r)).engine.state.inFlight = none ∧ (running .over (one r)).record 0 = some r ∧
      (running .over (one r)).record 63 = none) ∧
    (running .over (one { stream with amendment := some pendingAmendment })).LeasesSound ∧
    (running .over (one { stream with leaseRemaining := some 1 })).LeasesSound ∧
    (running .over (one { stream with leaseRemaining := some 2 })).LeasesSound := by
  refine ⟨fun r => ⟨rfl, rfl, rfl, one_record r 0, one_record r 63⟩, one_leasesSound _ (by decide) ?_ ?_,
    one_leasesSound _ (by decide) ?_ ?_, one_leasesSound _ (by decide) ?_ ?_⟩
  · exact (by decide : 16 ≤ 65535 ∧ 65535 ≤ 65535 ∧ 1 ≤ 65535 ∧ 65535 ≤ 65535)
  · rintro am ⟨⟩
    rfl
  · exact (by decide : 16 ≤ 65535 ∧ 65535 ≤ 65535 ∧ 1 ≤ 1 ∧ 1 ≤ 65535)
  · rintro am ⟨⟩
  · exact (by decide : 16 ≤ 65535 ∧ 65535 ≤ 65535 ∧ 1 ≤ 2 ∧ 2 ≤ 65535)
  · rintro am ⟨⟩

/-- A record whose lease remaining is 0 and ones that LEASE_EXPIRY leaves (LeaseExpiry). -/
theorem witness_leaseExpiry :
    (State.reset.trunk.state ≠ .running ∧ State.reset.record 63 = none) ∧
    (let r := { stream with leaseRemaining := some 1 }
     (running .over (one r)).record 0 = some r ∧ r.leaseRemaining ≠ some 0) ∧
    let r := { stream with leaseRemaining := some 0 }
    (running .over (one r)).trunk.state = .running ∧ (running .over (one r)).record 0 = some r ∧
      r.leaseRemaining = some 0 ∧ r.state ≠ .closing ∧ (running .over (one r)).recordInFlight 0 = false :=
  ⟨⟨by decide, by decide +kernel⟩, ⟨one_record _ 0, by decide⟩, rfl, one_record _ 0, rfl, by decide, rfl⟩

/-! ### Witnesses: the cycle and its starts -/

/-- The mark's end with a record due, with one EXCUSED alone and with none; and the guard with an exchange in flight and
with none (CyclePhases). -/
theorem witness_phases :
    (let s := waiting (running .mark (one stream))
     s.EntriesOnce ∧ s.inCycle = true ∧ s.trunk.phase = .mark ∧ ∃ e, e ∈ s.sched.entries ∧ e.disposition = .waiting) ∧
    (let s := { running .mark (one stream) with sched := ⟨[], [], [⟨0, 0, .excused⟩]⟩ }
     s.EntriesOnce ∧ s.inCycle = true ∧ s.trunk.phase = .mark ∧ s.sched.entries ≠ [] ∧
      (∀ e, e ∈ s.sched.entries → e.disposition ≠ .waiting) ∧ s.engine.state.inFlight = none) ∧
    (let s := running .mark (withRequest (request .queued) (one stream))
     s.EntriesOnce ∧ s.inCycle = true ∧ s.trunk.phase = .mark ∧ s.sched.entries = [] ∧ s.engine.state.inFlight = none ∧
      acyclicPhase s true = .pieces) ∧
    (let s := running .over (one stream)
     s.EntriesOnce ∧ s.inCycle = true ∧ s.trunk.phase = .over ∧ s.trunk.guard = false ∧
      s.reaches (max s.trunk.clock (s.trunk.applied.c - 10)) = true ∧ s.engine.state.inFlight = none) ∧
    (let s := { running .pieces (one stream) with engine := ⟨.receiving ⟨.probe, 0, 960, 990⟩ 961, []⟩ }
     s.EntriesOnce ∧ s.inCycle = true ∧ s.trunk.phase ≠ .idle ∧ s.trunk.phase ≠ .mark ∧ s.trunk.guard = false ∧
      s.reaches (max s.trunk.clock (s.trunk.applied.c - 10)) = true ∧ s.engine.state.inFlight ≠ none) :=
  ⟨⟨entriesOnce_of _ (by decide), rfl, rfl, _, List.mem_cons_self, rfl⟩,
    ⟨entriesOnce_of _ (by decide), rfl, rfl, by decide, by decide, rfl⟩,
    ⟨entriesOnce_of _ (by decide), rfl, rfl, rfl, rfl, by decide +kernel⟩,
    ⟨entriesOnce_of _ (by decide), rfl, rfl, rfl, rfl, rfl⟩,
    ⟨entriesOnce_of _ (by decide), rfl, by decide, by decide, rfl, rfl, by decide⟩⟩

/-- The phase reached at a moment. -/
def atTime (m : Nat) (s : State) : State := { s with trunk := { s.trunk with clock := m } }

/-- What FirstAttemptStarts asks of a state whose first WAITING record is at handle 0. -/
structure FirstTurn (s : State) : Prop where
  once : s.EntriesOnce
  turn : s.turn .cyclic = true
  active : allActive s
  entry : ∃ before e after, s.sched.entries = before ++ e :: after ∧ e.disposition = .waiting ∧
    (∀ d, d ∈ before → d.disposition ≠ .waiting) ∧ s.record e.handle = some stream

theorem allActive_one (d : Disposition) (n : Nat) (s : State) (hs : s.sched.entries = [⟨0, n, d⟩])
    (ha : s.isActive 0 = true) : allActive s := by
  intro e he _
  rw [hs, List.mem_singleton] at he
  rw [he]
  exact ha

theorem firstTurn (s : State) (ht : s.turn .cyclic = true) (hs : s.sched.entries = [⟨0, 0, .waiting⟩])
    (hr : s.record 0 = some stream) : FirstTurn s :=
  ⟨entriesOnce_of _ (by rw [hs]; decide), ht, allActive_one _ _ _ hs (by rw [State.isActive, hr]; rfl), [], _, [], hs, rfl,
    by simp, hr⟩

/-- A first attempt that waits for a stray byte, one whose slot ends at C − 10, and ones that end a byte-time later with a
retry waiting and with none (FirstAttemptStarts). -/
theorem witness_firstAttempt :
    let s := atTime 965 (waiting (running .cyclic (one stream)))
    let t := atTime 966 s
    let u := { t with sched := { t.sched with retry := [1] } }
    (FirstTurn (busy s) ∧ (busy s).engineReady = false) ∧
    (FirstTurn s ∧ s.engineReady = true ∧ s.trunk.clock + (13 + 8 + s.trunk.applied.w) + 10 ≤ s.trunk.applied.c) ∧
    (FirstTurn t ∧ t.engineReady = true ∧ t.trunk.applied.c < t.trunk.clock + (13 + 8 + t.trunk.applied.w) + 10 ∧
      t.sched.retry = []) ∧
    (FirstTurn u ∧ u.engineReady = true ∧ u.trunk.applied.c < u.trunk.clock + (13 + 8 + u.trunk.applied.w) + 10 ∧
      u.sched.retry ≠ []) :=
  ⟨⟨firstTurn _ rfl rfl (one_record _ 0), rfl⟩, ⟨firstTurn _ rfl rfl (one_record _ 0), rfl, by decide⟩,
    ⟨firstTurn _ rfl rfl (one_record _ 0), rfl, by decide, rfl⟩,
    ⟨firstTurn _ rfl rfl (one_record _ 0), rfl, by decide, by decide⟩⟩

/-- A retry that waits while the engine is QUIETING, one whose slot ends at 8 + B, and one that ends a byte-time later
(RetryStarts). -/
theorem witness_retry :
    let s := { atTime 815 (running .retry (one stream)) with sched := ⟨[0], [0], [⟨0, 1, .retryWait⟩]⟩ }
    let t := atTime 816 s
    let u := { s with engine := ⟨.quieting 815, []⟩ }
    (s.EntriesOnce ∧ s.turn .retry = true ∧ allActive s ∧ s.sched.retry = 0 :: [] ∧ s.record 0 = some stream ∧
      s.engineReady = true ∧ s.trunk.clock + (13 + 8 + 4) ≤ 8 + (s.trunk.applied.c - 18 - s.trunk.applied.a)) ∧
    (t.EntriesOnce ∧ t.turn .retry = true ∧ allActive t ∧ t.sched.retry = 0 :: [] ∧ t.record 0 = some stream ∧
      t.engineReady = true ∧ 8 + (t.trunk.applied.c - 18 - t.trunk.applied.a) < t.trunk.clock + (13 + 8 + 4)) ∧
    (u.EntriesOnce ∧ u.turn .retry = true ∧ allActive u ∧ u.sched.retry = 0 :: [] ∧ u.record 0 = some stream ∧
      u.engineReady = false) :=
  ⟨⟨entriesOnce_of _ (by decide), rfl, allActive_one _ _ _ rfl rfl, rfl, one_record _ 0, rfl, by decide⟩,
    ⟨entriesOnce_of _ (by decide), rfl, allActive_one _ _ _ rfl rfl, rfl, one_record _ 0, rfl, by decide⟩,
    entriesOnce_of _ (by decide), rfl, allActive_one _ _ _ rfl rfl, rfl, one_record _ 0, rfl⟩

/-- Probe service with a list, and a number of probes started. -/
def probing (list : List Node) (n : Nat) (s : State) : State :=
  { running .probes s with acyclic := { s.acyclic with probeList := list, probesRun := n } }

/-- The guard has begun. -/
def guarded (s : State) : State := { s with trunk := { s.trunk with guard := true } }

/-- A second probe and a piece turned to, and every way in which none starts: two probes started, an empty list, an empty
queue, a head deferred, and the guard (AcyclicStarts). -/
theorem witness_acyclic :
    (let s := probing [61] 1 State.reset
     s.turn .probes = true ∧ s.acyclic.probeList = 61 :: [] ∧ s.acyclic.probesRun < 2 ∧ s.trunk.guard = false ∧
      s.engineReady = true) ∧
    ((probing [61] 2 State.reset).turn .probes = true ∧ (probing [61] 2 State.reset).acyclic.probesRun ≥ 2) ∧
    ((probing [] 0 State.reset).turn .probes = true ∧ (probing [] 0 State.reset).acyclic.probeList = []) ∧
    ((guarded (probing [61] 0 State.reset)).turn .probes = true ∧ (guarded (probing [61] 0 State.reset)).trunk.guard = true) ∧
    (let s := running .pieces (withRequest (request .queued) State.reset)
     s.turn .pieces = true ∧ s.acyclic.queue = 0 :: [] ∧ 0 ∉ s.acyclic.deferred ∧ s.trunk.guard = false ∧
      s.request 0 = some (request .queued) ∧ s.engineReady = true ∧
      (guarded s).turn .pieces = true ∧ (guarded s).trunk.guard = true ∧
      let d := { s with acyclic := { s.acyclic with deferred := [0] } }
      d.turn .pieces = true ∧ d.acyclic.queue = 0 :: [] ∧ 0 ∈ d.acyclic.deferred) ∧
    ((running .pieces State.reset).turn .pieces = true ∧ (running .pieces State.reset).acyclic.queue = []) :=
  ⟨⟨rfl, rfl, by decide, rfl, rfl⟩, ⟨rfl, by decide⟩, ⟨rfl, rfl⟩, ⟨rfl, rfl⟩,
    ⟨rfl, rfl, by decide, rfl, rfl, rfl, rfl, rfl, rfl, rfl, by decide⟩, rfl, rfl⟩

/-! ### Witnesses: exchanges -/

/-- The first byte of a mark, 63, on TXD, least significant bit first (R182). -/
theorem test_line_bits :
    (List.range 10).map (marking 1 State.reset).txd =
      [some .start, some (.data true), some (.data true), some (.data true), some (.data true), some (.data true),
        some (.data true), some (.data false), some (.data false), some .stop] := by
  decide

/-- The engine in each of its states at a moment at which its event can come, and a frame in transmission
(EngineTiming). -/
theorem witness_engine :
    ((marking 1 State.reset).pins.tx = some [63] ∧ ([63] : List Byte)[0]? = some 63 ∧ 10 * ([63] : List Byte).length ≤ 10) ∧
    (let s := { running .pieces State.reset with engine := ⟨.polling (exchange .probe), []⟩ }
     s.engine.state = .polling (exchange .probe) ∧ s.reaches 120 = true) ∧
    (let s := { running .pieces State.reset with engine := ⟨.awaiting (exchange .probe), []⟩ }
     s.engine.state = .awaiting (exchange .probe) ∧ s.reaches (120 + 4) = true ∧ s.trunk.applied.w < 5) ∧
    (let s := quieting .pieces State.reset
     s.engine.state = .quieting 145 ∧ 1 ≤ 1 ∧ s.reaches (145 + 1) = true ∧ s.reaches (145 + 16) = true) ∧
    (State.reset.engine.state = .idle ∧ State.reset.pins.tx = none ∧ State.reset.trunk.timer = none) ∧
    (let s := running .over State.reset
     s.engine.state = .idle ∧ s.pins.tx = none ∧ s.trunk.timer ≠ none ∧ s.reaches (s.trunk.clock + 900) = true) :=
  ⟨⟨rfl, rfl, by decide⟩, ⟨rfl, rfl⟩, ⟨rfl, rfl, by decide⟩, ⟨rfl, by decide, rfl, rfl⟩, ⟨rfl, rfl, rfl⟩, rfl, rfl,
    by decide, rfl⟩

/-- The longest payload a reply can declare, a reply of another node, a piece reply with another offset, and a damaged
reply (ReplyJudgement). -/
theorem witness_judgement :
    (List.replicate 255 (0 : Byte)).length ≤ 255 ∧
    (([] : List Byte).length = (ownEcho .probe).length ∧ (3 : Byte) ≠ byte ((exchange .probe).node.val + 1)) ∧
    (([33] : List Byte).length = (ownEcho (.piece 0 .write 32 8)).length ∧ [33] ≠ ownEcho (.piece 0 .write 32 8)) ∧
    (let own := withCrc ([1, 0x20, 1, 0] ++ []); 5 < own.length ∧ (own.take 4 ++ [0, 0]).length = own.length ∧
      (own.take 4 ++ [0, 0]).take 4 = own.take 4 ∧ own.take 4 ++ [0, 0] ≠ own) := by
  decide +kernel

/-- Replies to a probe and to a read piece of 8 bytes at offset 32, bit 7 of the code set and clear: in range and out of
it, the declared length right and wrong, the offset echoed and not (R85, R86, R184, Table 5-3). -/
theorem test_judge_probe_and_piece :
    (let judged (code ch lp : Byte) := judgeReply (exchange .probe) (withCrc [1, 0x21, code, 8, 0, 5, ch, lp, 0, 0, 0, 0])
     judged 0x81 16 8 = .ok ∧ judged 1 17 8 = .crcError ∧ judged 1 1 7 = .crcError ∧ judged 2 1 8 = .badLength ∧
      judgeReply (exchange .probe) (withCrc [1, 0x21, 0x83, 0]) = .refused) ∧
    (let judged (kind code echo len : Byte) (n : Nat) :=
      judgeReply (exchange (.piece 0 .read 32 8)) (withCrc ([1, kind, code, echo, len] ++ List.replicate n 0))
     judged 0x22 0x81 32 8 8 = .ok ∧ judged 0x22 1 33 8 8 = .crcError ∧ judged 0x22 1 32 7 7 = .badLength ∧
      judged 0x22 0x82 32 0 0 = .deferred ∧ judged 0x20 1 32 8 8 = .crcError) := by
  decide +kernel

/-- The poll of the COLLECT record, and that of the DELIVER record with nothing to deliver. -/
def collectPoll : Poll := .collect 0 8 false true

def holdPoll : Poll := .hold 0 8 false true

/-- A reply to a poll of the one record in reception, in CYCLIC or in RETRY, the record the last to be served. -/
def serving (phase : Phase) (p : Poll) (r : StreamRecord) : State :=
  receiving p { running phase (one r) with sched := ⟨[0], [], [⟨0, 1, .inFlight⟩]⟩ }

theorem serving_once (phase : Phase) (p : Poll) (r : StreamRecord) : (serving phase p r).EntriesOnce :=
  entriesOnce_of _ (by show ([0] : List Handle).Nodup; decide)

/-- A node in a state, its failures one short of the silence threshold. -/
def nodeIs (st : NodeState) (s : State) : State := { s with roster := s.roster.set 0 ⟨st, none, 3, 1⟩ }

/-- A good reply of 8 bytes, without gaps and with the longest that the slot leaves, to the last record of CYCLIC and of
RETRY, from a node in each state (ReplyPublishesSample). -/
theorem witness_publish :
    let bytes := withCrc ([byte ((exchange collectPoll).node.val + 1), 0x20, 0x01, byte 8] ++ List.replicate 8 0x11)
    ∀ phase st, phase = .cyclic ∨ phase = .retry →
      let s := nodeIs st (serving phase collectPoll collect)
      s.PoolTrue ∧ s.store.mem.wf = true ∧ s.EntriesOnce ∧
      s.engine.state = .receiving (exchange collectPoll) 121 ∧ s.record 0 = some collect ∧
      collect.state = .active ∧ collect.params.len = 8 ∧ (List.replicate 8 (0x11 : Byte)).length = 8 ∧
      (s.node 0).state = st ∧ 10 ≤ bytes.length - 2 ∧
      s.reaches (121 + bytes.length + 0) = true ∧ s.reaches (121 + bytes.length + 10) = true := by
  intro bytes phase st hp
  have hb : bytes.length = 14 := by decide +kernel
  have h := one_poolTrue collect 2 rfl rfl (by decide) rfl
  refine ⟨⟨h.partition, h.ascending, h.sized, h.bare⟩, rfl, serving_once phase collectPoll collect, rfl, one_record _ 0, rfl, rfl,
    by decide, by simp [nodeIs, State.node], by omega, ?_, ?_⟩ <;> rw [hb] <;> rcases hp with rfl | rfl <;> rfl

/-- The frame of a reply without payload from node 1. -/
def shortReply (code : Byte) : List Byte := withCrc [1, 0x20, code, 0]

/-- A reply to a stream poll of the record at handle 0 that ends with an outcome. -/
def EndsWith (s : State) (bytes : List Byte) (o : ExchangeOutcome) : Prop :=
  ∃ x m, endsByReply s x o (.replyEnd bytes 0) m ∧ s.reaches m = true ∧ x.poll.handle? = some 0

theorem endsWith (phase : Phase) (p : Poll) (r : StreamRecord) (bytes : List Byte) (o : ExchangeOutcome)
    (hp : p.handle? = some 0) (hb : bytes ≠ []) (ho : judgeReply (exchange p) bytes = o)
    (hr : (serving phase p r).reaches (replyEndMoment p 121 bytes 0) = true) : EndsWith (serving phase p r) bytes o :=
  ⟨exchange p, _, ⟨121, bytes, 0, rfl, hb, Nat.zero_le _, rfl, rfl, ho⟩, hr, hp⟩

/-- DUPLICATE, DEFERRED and REFUSED of a COLLECT poll and OK of a hold poll, of the last record of CYCLIC and of RETRY,
ACTIVE and CLOSING (AnsweredPoll). -/
theorem witness_answered :
    (∀ phase, phase = .cyclic ∨ phase = .retry → ∀ st, st = .active ∨ st = .closing →
      let r := { collect with state := st }
      let d := { stream with state := st }
      let s := serving phase collectPoll r
      let t := serving phase holdPoll d
      s.EntriesOnce ∧ s.record 0 = some r ∧ r.state = st ∧
      EndsWith s (withCrc ([1, 0x20, 0x81, 8] ++ List.replicate 8 0)) .duplicate ∧
      EndsWith s (shortReply 2) .deferred ∧ EndsWith s (shortReply 3) .refused ∧
      t.EntriesOnce ∧ t.record 0 = some d ∧ d.direction = .deliver ∧ EndsWith t (shortReply 1) .ok) ∧
    ∀ k len bit resync, holdPoll ≠ .collect k len bit resync := by
  refine ⟨?_, by rintro _ _ _ _ ⟨⟩⟩
  rintro phase hp st hs
  refine ⟨serving_once _ _ _, one_record _ 0, rfl, ?_, ?_, ?_, serving_once _ _ _, one_record _ 0, rfl, ?_⟩ <;>
    refine endsWith _ _ _ _ _ rfl (by decide +kernel) (by decide +kernel) ?_ <;>
    rcases hp with rfl | rfl <;> rcases hs with rfl | rfl <;> decide +kernel

/-- The window passing on an exchange at the moment 120, in a phase. -/
def unanswered (phase : Phase) (p : Poll) (s : State) : State :=
  { running phase s with engine := ⟨.awaiting (exchange p), []⟩, sched := ⟨[0], [], [⟨0, 1, .inFlight⟩]⟩ }

theorem unanswered_ends (phase : Phase) (p : Poll) (s : State) (h : s.trunk.applied.w = 4) :
    endsUnanswered (unanswered phase p s) (exchange p) .exchangeTimeout 124 .idle :=
  .inl ⟨rfl, rfl, by show 124 = 120 + s.trunk.applied.w; rw [h], rfl⟩

theorem unanswered_once (phase : Phase) (p : Poll) (s : State) : (unanswered phase p s).EntriesOnce :=
  entriesOnce_of _ (by show ([0] : List Handle).Nodup; decide)

/-- A timeout of the last record of CYCLIC and of RETRY, ACTIVE and CLOSING, with a retry left and without; an overlong
reply and a damaged one (UnansweredPoll). -/
theorem witness_unanswered :
    (∀ phase, phase = .cyclic ∨ phase = .retry → ∀ st, st = .active ∨ st = .closing → ∀ limit, limit = 0 ∨ limit = 1 →
      let r := { collect with state := st, params := { collect.params with retryLimit := limit } }
      let s := unanswered phase collectPoll (one r)
      s.EntriesOnce ∧ endsUnanswered s (exchange collectPoll) .exchangeTimeout 124 .idle ∧ s.reaches 124 = true ∧
      s.record 0 = some r ∧ s.lossDue (exchange collectPoll).node = false ∧
      (s.attempts 0 ≤ r.params.retryLimit ↔ limit = 1)) ∧
    (let s := serving .cyclic collectPoll collect
     s.EntriesOnce ∧
      endsUnanswered s (exchange collectPoll) (.slotEndOverlong (List.replicate 12 0xFF)) 145 (.quieting 145) ∧
      s.reaches 145 = true ∧ endsUnanswered s (exchange collectPoll) (.replyEnd [1] 0) 123 .idle ∧ s.reaches 123 = true ∧
      s.lossDue 0 = false) := by
  refine ⟨?_, serving_once _ _ _, .inr (.inr ⟨121, _, rfl, by decide +kernel, rfl, rfl, rfl⟩), by decide,
    .inr (.inl ⟨.inl ⟨121, _, 0, rfl, by decide, by decide, rfl, by decide +kernel, by decide +kernel⟩, rfl⟩), by decide, rfl⟩
  rintro phase hp st - limit hl
  refine ⟨unanswered_once _ _ _, unanswered_ends _ _ _ rfl, ?_, one_record _ 0, rfl, ?_⟩
  · rcases hp with rfl | rfl <;> rfl
  · show 1 ≤ limit ↔ limit = 1
    omega

/-- The loss of the node at the end of an ACTIVE record's exchange and of a CLOSING one's (NodeLoss). -/
theorem witness_nodeLoss : ∀ st, st = .active ∨ st = .closing →
    let r := { collect with state := st }
    let s := nodeIs .present (unanswered .cyclic collectPoll (one r))
    endsUnanswered s (exchange collectPoll) .exchangeTimeout 124 .idle ∧ s.reaches 124 = true ∧ s.record 0 = some r ∧
    r.node = (exchange collectPoll).node ∧ s.lossDue (exchange collectPoll).node = true :=
  fun _ _ => ⟨.inl ⟨rfl, rfl, rfl, rfl⟩, rfl, one_record _ 0, rfl, rfl⟩

/-- The reply to a write piece at offset 32. -/
def pieceReply (code : Byte) : List Byte := withCrc [1, 0x22, code, 32, 0]

/-- The last piece of an ACTIVE and of a CANCELLING request answered in each way, at the eighth deferral too
(PieceAnswered). -/
theorem witness_pieceAnswered :
    let p : Poll := .piece 0 .write 32 8
    ∀ st, st = .active ∨ st = .cancelling →
      let q : Request := { request st with defers := 7 }
      let s := receiving p (running .pieces (withRequest q (one collect)))
      (∀ o code, (o = .ok ∧ code = 1 ∨ o = .deferred ∧ code = 2 ∨ o = .refused ∧ code = 3) →
        endsByReply s (exchange p) o (.replyEnd (pieceReply code) 0) 128) ∧
      s.EntriesOnce ∧ s.reaches 128 = true ∧ s.request 0 = some q ∧ q.state = st := by
  rintro p st hs
  refine ⟨?_, entriesOnce_of _ (by show ([] : List Handle).Nodup; decide), rfl, rfl, rfl⟩
  rintro o code (⟨rfl, rfl⟩ | ⟨rfl, rfl⟩ | ⟨rfl, rfl⟩) <;>
    exact ⟨121, _, 0, rfl, by decide +kernel, by decide, rfl, by decide +kernel, by decide +kernel⟩

/-- An unanswered piece of an ACTIVE request at its first and its third failure, and of a CANCELLING one, with the node
kept and lost (PieceUnanswered). -/
theorem witness_pieceUnanswered :
    let p : Poll := .piece 0 .write 32 8
    ∀ st, st = .active ∨ st = .cancelling → ∀ failures, failures = 0 ∨ failures = 2 →
      let q : Request := { request st with failures := failures }
      let s := unanswered .pieces p (withRequest q (one collect))
      let t := unanswered .pieces p (withRequest q (nodeIs .present (one collect)))
      (s.EntriesOnce ∧ endsUnanswered s (exchange p) .exchangeTimeout 124 .idle ∧ s.reaches 124 = true ∧
        s.request 0 = some q ∧ q.state = st ∧ q.node = (exchange p).node ∧ s.lossDue (exchange p).node = false) ∧
      (t.EntriesOnce ∧ endsUnanswered t (exchange p) .exchangeTimeout 124 .idle ∧ t.reaches 124 = true ∧
        t.request 0 = some q ∧ t.lossDue (exchange p).node = true) := fun _ _ _ _ =>
  ⟨⟨unanswered_once _ _ _, unanswered_ends _ _ _ rfl, rfl, rfl, rfl, rfl, rfl⟩, unanswered_once _ _ _,
    unanswered_ends _ _ _ rfl, rfl, rfl, rfl⟩

/-- A parked CLOSE_STREAM and a parked CANCEL_REQUEST that an exchange's end answers, and orphans that it discards
(AnsweredPoll, UnansweredPoll, NodeLoss, PieceAnswered, PieceUnanswered). -/
theorem witness_parked : ∀ orphan,
    (unparked { State.reset with arbiter := ⟨[], some ⟨.close 0 true, .a, 7, orphan⟩⟩ } (closeAnswer 0)).arbiter.parked =
      none ∧
    (unparked { State.reset with arbiter := ⟨[], some ⟨.cancel 0, .a, 7, orphan⟩⟩ } (cancelAnswer 0 (request .cancelling))
      ).arbiter.parked = none ∧
    ((unparked { State.reset with arbiter := ⟨[], some ⟨.close 0 true, .a, 7, orphan⟩⟩ } (closeAnswer 0)).ports.a.state =
      if orphan then .idle else .resultReady (resultFrame 7 .ok [0, 1, 1])) := by
  rintro (_ | _) <;> decide +kernel

/-- A probe that ends unanswered, DEFERRED and REFUSED, and one that ends OK at the ends of the identity's ranges, of a node
in each state (ProbeEnd). -/
theorem witness_probe : ∀ st,
    (let s := nodeIs st (unanswered .probes .probe State.reset)
     s.EntriesOnce ∧ (exchange .probe).poll = .probe ∧ (s.node 0).state = st ∧
      endsUnanswered s (exchange .probe) .exchangeTimeout 124 .idle ∧ s.reaches 124 = true) ∧
    (let s := nodeIs st (receiving .probe (running .probes State.reset))
     s.EntriesOnce ∧ (s.node 0).state = st ∧ s.engine.state = .receiving (exchange .probe) 121 ∧
      s.reaches (121 + 14 + 0) = true ∧ s.reaches (121 + 14 + 10) = true ∧
      endsByReply s (exchange .probe) .deferred (.replyEnd (withCrc [1, 0x21, 2, 0]) 0) 127 ∧
      endsByReply s (exchange .probe) .refused (.replyEnd (withCrc [1, 0x21, 3, 0]) 0) 127 ∧ s.reaches 127 = true) ∧
    1 ≤ (1 : Byte).toNat ∧ (16 : Byte).toNat ≤ 16 ∧ 8 ≤ (8 : Byte).toNat ∧ (128 : Byte).toNat ≤ 128 := by
  intro st
  refine ⟨⟨unanswered_once .probes .probe State.reset, rfl, by simp [nodeIs, State.node], .inl ⟨rfl, rfl, rfl, rfl⟩, rfl⟩,
    ⟨entriesOnce_of _ (by show ([] : List Handle).Nodup; decide), by simp [nodeIs, State.node], rfl, rfl, rfl, ?_, ?_, rfl⟩,
    by decide, by decide, by decide, by decide⟩ <;>
    exact ⟨121, _, 0, rfl, by decide +kernel, by decide, rfl, by decide +kernel, by decide +kernel⟩

end Sys2Proof.Tests
end

section
/-! PROOFS. The stream table's FIND_STREAM and RESTART_STREAM (R5, R6, R11): what the arbiter's step makes of an owner's
answer, what the checks on a handle decide, what the search for a key finds, and the two obligations settled from these. -/

namespace Sys2Proof.Machine

/-! ### The command taken and answered -/

/-- The state in which an owner acts: its command no longer waits at the arbiter. -/
def State.taken (s : State) (rest : List Command) : State :=
  { s with arbiter := { s.arbiter with waiting := rest } }

@[simp] theorem State.record_taken (s : State) (rest : List Command) (h : Handle) :
    (s.taken rest).record h = s.record h := rfl

@[simp] theorem State.beginState_taken (s : State) (rest : List Command) (n : Node) :
    (s.taken rest).beginState n = s.beginState n := rfl

@[simp] theorem State.findBytes_taken (s : State) (rest : List Command) (n : Node) (channel : Nat) (d : Direction) :
    (s.taken rest).findBytes n channel d = s.findBytes n channel d := rfl

/-- An owner that answers with a result: its port holds the result, in the state the owner leaves. -/
theorem State.serve_of_reply {s t : State} {p : Port} {name : CommandName} {c : Command} {rest : List Command}
    {owner : Port → List Byte → State → State × Answer} {r : ResultCode} {bytes : List Byte}
    (hn : s.IsNext p name c rest) (ho : owner p c.body (s.taken rest) = (t, .reply r bytes)) :
    s.serve p name owner = t.compose c.port c.tag r bytes := by
  obtain ⟨hw, hp, hc⟩ := hn
  rw [s.serve_eq p name owner c rest hw hp hc, ← State.taken, ho, State.deliver_reply]

/-- An owner that answers and changes nothing leaves the command answered. -/
theorem State.serve_of_unchanged {s : State} {p : Port} {name : CommandName} {c : Command} {rest : List Command}
    {owner : Port → List Byte → State → State × Answer} {r : ResultCode} {bytes : List Byte}
    (hn : s.IsNext p name c rest) (ho : owner p c.body (s.taken rest) = (s.taken rest, .reply r bytes)) :
    s.serve p name owner = s.answered c rest r bytes :=
  State.serve_of_reply hn ho

/-! ### The checks NO_SUCH and NOT_OWNER (R1, R6) -/

theorem readHandle_eq_some {b : Byte} {h : Handle} : readHandle b = some h ↔ h.val = b.toNat := by
  unfold readHandle
  split
  · simp only [Option.some.injEq, Fin.ext_iff, eq_comm]
  · next hb => exact ⟨nofun, fun e => absurd (e ▸ h.isLt) hb⟩

theorem State.withRecord_of_free {s : State} {b : Byte} {act : Handle → StreamRecord → State × Answer}
    (hb : ∀ h : Handle, h.val = b.toNat → s.record h = none) : s.withRecord b act = s.refuse .noSuch := by
  unfold State.withRecord
  split
  · rfl
  · next h hh => rw [hb h (readHandle_eq_some.1 hh)]

theorem State.withRecord_of_live {s : State} {b : Byte} {act : Handle → StreamRecord → State × Answer} {h : Handle}
    {r : StreamRecord} (hb : h.val = b.toNat) (hr : s.record h = some r) : s.withRecord b act = act h r := by
  simp only [State.withRecord, readHandle_eq_some.2 hb, hr]

theorem State.withOwnRecord_of_free {s : State} {p : Port} {b : Byte} {act : Handle → StreamRecord → State × Answer}
    (hb : ∀ h : Handle, h.val = b.toNat → s.record h = none) : s.withOwnRecord p b act = s.refuse .noSuch :=
  State.withRecord_of_free hb

theorem State.withOwnRecord_of_live {s : State} {p : Port} {b : Byte} {act : Handle → StreamRecord → State × Answer}
    {h : Handle} {r : StreamRecord} (hb : h.val = b.toNat) (hr : s.record h = some r) :
    s.withOwnRecord p b act = if r.owner = p then act h r else s.refuse .notOwner :=
  State.withRecord_of_live hb hr

/-! ### The record that holds a key (R4, R5) -/

theorem StreamRecord.hasKey_iff {r : StreamRecord} {n : Node} {channel : Nat} {d : Direction} :
    r.hasKey n channel d = true ↔ r.node = n ∧ r.channel = channel ∧ r.direction = d := by
  simp [StreamRecord.hasKey, and_assoc]

theorem State.findKey_eq (s : State) (n : Node) (channel : Nat) (d : Direction) :
    s.findKey n channel d = handles.find? fun h => (s.record h).any (·.hasKey n channel d) := by
  unfold State.findKey
  congr 1
  funext h
  cases s.record h <;> rfl

/-- A handle found holds a live record with the key. -/
theorem State.record_of_findKey {s : State} {n : Node} {channel : Nat} {d : Direction} {h : Handle}
    (hf : s.findKey n channel d = some h) :
    ∃ r, s.record h = some r ∧ r.node = n ∧ r.channel = channel ∧ r.direction = d := by
  rw [State.findKey_eq] at hf
  have held := List.find?_some hf
  obtain ⟨r, hr, hk⟩ := (Option.any_eq_true _ _).1 held
  exact ⟨r, hr, StreamRecord.hasKey_iff.1 hk⟩

/-- The search finds nothing exactly when no live record holds the key. -/
theorem State.findKey_eq_none {s : State} {n : Node} {channel : Nat} {d : Direction} :
    s.findKey n channel d = none ↔ keyFree s n channel d := by
  simp only [State.findKey_eq, List.find?_eq_none, Option.any_eq_true, StreamRecord.hasKey_iff, not_exists, keyFree,
    handles, List.mem_finRange, true_implies, not_and]

/-- With distinct keys the search finds the one record that holds the key. -/
theorem State.findKey_of_record {s : State} {n : Node} {channel : Nat} {d : Direction} {h : Handle} {r : StreamRecord}
    (hd : s.KeysDistinct) (hr : s.record h = some r) (hn : r.node = n) (hc : r.channel = channel)
    (hdir : r.direction = d) : s.findKey n channel d = some h := by
  cases hf : s.findKey n channel d with
  | none => exact absurd ⟨hn, hc, hdir⟩ (State.findKey_eq_none.1 hf h r hr)
  | some k =>
    obtain ⟨q, hq, qn, qc, qd⟩ := State.record_of_findKey hf
    rw [hd k h q r hq hr (qn.trans hn.symm) (qc.trans hc.symm) (qd.trans hdir.symm)]

theorem State.findBytes_of_record {s : State} {n : Node} {channel : Nat} {d : Direction} {h : Handle} {r : StreamRecord}
    (hf : s.findKey n channel d = some h) (hr : s.record h = some r) :
    s.findBytes n channel d = some [byte h.val, byte (portCode r.owner), byte (streamStateCode r.state)] := by
  simp [State.findBytes, hf, hr]

theorem State.findBytes_of_none {s : State} {n : Node} {channel : Nat} {d : Direction}
    (hf : s.findKey n channel d = none) : s.findBytes n channel d = none := by
  simp [State.findBytes, hf]

/-! ### The operands of FIND_STREAM (R5, R167) -/

/-- A node address names the node one below it. -/
theorem nodeOf?_eq_some {address : Nat} {n : Node} : nodeOf? address = some n ↔ address = n.val + 1 := by
  have := n.isLt
  unfold nodeOf?
  split
  · simp only [Option.some.injEq, Fin.ext_iff]
    omega
  · exact ⟨nofun, fun e => by omega⟩

theorem nodeOf?_eq_none {address : Nat} : nodeOf? address = none ↔ address < 1 ∨ 62 < address := by
  unfold nodeOf?
  split
  · simp only [reduceCtorEq, false_iff]
    omega
  · simp only [true_iff]
    omega

theorem readDirection_of_code {b : Byte} {d : Direction} (hb : b = 0 ∧ d = .collect ∨ b = 1 ∧ d = .deliver) :
    readDirection b = some d := by
  obtain ⟨rfl, rfl⟩ | ⟨rfl, rfl⟩ := hb <;> rfl

theorem readDirection_eq_none {b : Byte} : readDirection b = none ↔ 1 < b.toNat := by
  unfold readDirection
  split
  · next h0 => simp [h0]
  · next h0 =>
    split
    · next h1 => simp [h1]
    · next h1 =>
      simp only [true_iff]
      bv_omega

theorem readFind_of_length_ne {body : List Byte} (hl : body.length ≠ 3) : readFind body = none := by
  unfold readFind
  split
  · exact absurd rfl hl
  · rfl

theorem ownFindStream_of_form (p : Port) {body : List Byte} (s : State) (hb : readFind body = none) :
    ownFindStream p body s = s.refuse .badArgument := by
  simp only [ownFindStream, hb]

/-- A key in its ranges is looked up. -/
theorem ownFindStream_of_key (p : Port) (s : State) {nd ch di : Byte} {n : Node} {d : Direction}
    (hn : nodeOf? nd.toNat = some n) (hc : ch.toNat ≤ 15) (hd : readDirection di = some d) :
    ownFindStream p [nd, ch, di] s = (s, match s.findBytes n ch.toNat d with
      | none => .reply .noSuch []
      | some bytes => .reply .ok bytes) := by
  simp only [ownFindStream, readFind, hd, Option.map_some, hn, if_neg (Nat.not_lt.2 hc)]
  cases s.findBytes n ch.toNat d <;> rfl

/-- A key with a field outside its range is refused. -/
theorem ownFindStream_of_range (p : Port) (s : State) {nd ch di : Byte}
    (hr : nd.toNat < 1 ∨ 62 < nd.toNat ∨ 15 < ch.toNat ∨ 1 < di.toNat) :
    ownFindStream p [nd, ch, di] s = s.refuse .badArgument := by
  cases hd : readDirection di with
  | none => exact ownFindStream_of_form p s (by simp [readFind, hd])
  | some d =>
    have hdi : ¬1 < di.toNat := fun h => by simp [readDirection_eq_none.2 h] at hd
    simp only [ownFindStream, readFind, hd, Option.map_some]
    cases hn : nodeOf? nd.toNat with
    | none => rfl
    | some n =>
      have hnd : ¬(nd.toNat < 1 ∨ 62 < nd.toNat) := fun h => by simp [nodeOf?_eq_none.2 h] at hn
      exact if_pos (by omega)

/-! ### What RESTART_STREAM does (R11, R170) -/

/-- RESTART_STREAM of a live record, in the order of its checks. -/
theorem ownRestartStream_of_live {s : State} {p : Port} {b : Byte} {h : Handle} {r : StreamRecord}
    (hb : h.val = b.toNat) (hr : s.record h = some r) :
    ownRestartStream p [b] s =
      if r.owner ≠ p then s.refuse .notOwner
      else if r.state ≠ .faulted then s.refuse .wrongState
      else
        (s.setRecord h (some { r.resynced with state := s.beginState r.node }),
          .reply .ok [byte (streamStateCode (s.beginState r.node))]) := by
  simp only [ownRestartStream, readOneByte, State.withOwnRecord_of_live hb hr, ite_not]

theorem ownRestartStream_of_free {s : State} {p : Port} {b : Byte}
    (hb : ∀ h : Handle, h.val = b.toNat → s.record h = none) : ownRestartStream p [b] s = s.refuse .noSuch :=
  State.withOwnRecord_of_free hb

/-- The state a stream begins in, as a result codes it. -/
theorem State.byte_beginState (s : State) (n : Node) :
    byte (streamStateCode (s.beginState n)) = if (s.node n).state = .lost then 1 else 0 := by
  unfold State.beginState
  split <;> rfl

/-! ### The obligations -/

/-- Settles O21: the search finds the record that holds the key, which is the only one because keys are distinct. -/
theorem findStream : Obligations.FindStream := by
  intro p s c rest hk hn
  have answer : ∀ {r bytes}, ownFindStream p c.body (s.taken rest) = (s.taken rest, .reply r bytes) →
      exec (.findStream p) s = .next (s.answered c rest r bytes) :=
    fun ho => congrArg Host.Outcome.next (State.serve_of_unchanged hn ho)
  refine ⟨fun hl => answer (ownFindStream_of_form p _ (readFind_of_length_ne hl)), fun nd ch di hb => ?_⟩
  rw [hb] at answer
  refine ⟨fun hr => answer (ownFindStream_of_range p _ hr), fun n d hnd hch hdi => ?_⟩
  have look := ownFindStream_of_key p (s.taken rest) (nodeOf?_eq_some.2 hnd) hch (readDirection_of_code hdi)
  rw [State.findBytes_taken] at look
  constructor
  · intro h r hr rn rc rd
    rw [State.findBytes_of_record (State.findKey_of_record hk hr rn rc rd) hr] at look
    rw [answer look]
    cases r.owner <;> rfl
  · intro hf
    rw [State.findBytes_of_none (State.findKey_eq_none.2 hf)] at look
    exact answer look

/-- Settles O24: the checks of RESTART_STREAM in their order, and then the record replaced. -/
theorem restartStream : Obligations.RestartStream := by
  intro p s c rest b hn hb
  have answer : ∀ {t r bytes}, ownRestartStream p [b] (s.taken rest) = (t, .reply r bytes) →
      exec (.restartStream p) s = .next (t.compose c.port c.tag r bytes) :=
    fun ho => congrArg Host.Outcome.next (State.serve_of_reply hn (hb ▸ ho))
  refine ⟨fun hf => answer (ownRestartStream_of_free hf), fun h r hh hr => ?_⟩
  have own := ownRestartStream_of_live (p := p) hh ((s.record_taken rest h).trans hr)
  refine ⟨fun ho => ?_, fun ho hs => ?_, fun ho hs => ?_⟩
  · rw [if_pos ho] at own
    exact answer own
  · rw [if_neg (not_not.2 ho), if_pos hs] at own
    exact answer own
  · rw [if_neg (not_not.2 ho), if_neg (not_not.2 hs), State.beginState_taken, State.byte_beginState] at own
    exact answer own

end Sys2Proof.Machine
end

section
/-! PROOFS. The Attention Unit's READ_ATTN (R151): which entries of a set come first, what is left when they are taken,
how a result codes them, and the obligation settled from these. -/

namespace Sys2Proof.Machine

/-! ### The first entries in source order (R151) -/

/-- The first `n` members of an ascending list that have a property are those with fewer than `n` such members before
them. -/
theorem take_filter_of_ascending {α : Type} [Preorder α] [DecidableLT α] (P : α → Prop) [DecidablePred P] (l : List α)
    (n : Nat) (hl : l.Pairwise (· < ·)) :
    (l.filter fun i => decide (P i)).take n =
      l.filter fun i => decide (P i ∧ l.countP (fun j => decide (j < i ∧ P j)) < n) := by
  induction l generalizing n with
  | nil => simp
  | cons a l ih =>
    obtain ⟨above, hl⟩ := List.pairwise_cons.1 hl
    by_cases ha : P a
    · cases n with
      | zero => simp
      | succ n =>
        have none_before : (a :: l).countP (fun j => decide (j < a ∧ P j)) = 0 := by
          simpa using fun j hj hlt => absurd hlt (lt_asymm (above j hj))
        have tail : (l.filter fun i => decide (P i ∧ (a :: l).countP (fun j => decide (j < i ∧ P j)) < n + 1)) =
            l.filter fun i => decide (P i ∧ l.countP (fun j => decide (j < i ∧ P j)) < n) :=
          List.filter_congr fun i hi => by simp [ha, above i hi]
        rw [List.filter_cons_of_pos (by exact decide_eq_true ha), List.take_succ_cons, ih n hl, ← tail,
          List.filter_cons_of_pos (by exact decide_eq_true ⟨ha, none_before ▸ n.succ_pos⟩)]
    · simpa [ha] using ih n hl

theorem AttnSet.entries_eq (t : AttnSet) :
    t.entries = ((List.finRange 73).filter fun i => decide (t[i.val] ≠ 0)).map fun i => (i, t[i.val]) := by
  rw [AttnSet.entries, ← List.filterMap_eq_map, List.filterMap_filter]
  congr 1
  funext i
  by_cases h : t[i.val] = 0 <;> simp [h]

theorem AttnSet.length_entries (t : AttnSet) :
    t.entries.length = (List.finRange 73).countP fun i => decide (t[i.val] ≠ 0) := by
  rw [AttnSet.entries_eq, List.length_map, List.countP_eq_length_filter]

theorem AttnSet.firstEntries_eq (t : AttnSet) :
    t.firstEntries = ((List.finRange 73).filter (readFirst t)).map fun i => (i, t[i.val]) := by
  rw [AttnSet.firstEntries, AttnSet.entries_eq, ← List.map_take,
    take_filter_of_ascending _ _ _ (List.pairwise_lt_finRange 73)]
  rfl

/-- A READ_ATTN removes the entries it returns and no other. -/
theorem AttnSet.afterRead_eq (t : AttnSet) :
    t.afterRead = Vector.ofFn fun i => if readFirst t i then 0 else t[i.val] := by
  have returned : t.firstEntries.map Prod.fst = (List.finRange 73).filter (readFirst t) := by
    simp [AttnSet.firstEntries_eq, Function.comp_def]
  simp [AttnSet.afterRead, AttnSet.without, returned]

/-- The result of a READ_ATTN: how many entries it returns, how many remain, and the entries returned (R186). -/
theorem AttnSet.readBytes_eq (t : AttnSet) :
    t.readBytes =
      [byte ((List.finRange 73).filter (readFirst t)).length,
        byte ((List.finRange 73).countP fun i => decide (t.afterRead[i.val] ≠ 0))] ++
        ((List.finRange 73).filter (readFirst t)).flatMap fun i => [byte i.val] ++ be16 t[i.val].toNat := by
  rw [AttnSet.readBytes, AttnSet.length_entries, AttnSet.firstEntries_eq, List.length_map, List.flatMap_map]

/-! ### What READ_ATTN does (R151, R167) -/

theorem ownReadAttn_of_form (p : Port) {body : List Byte} (s : State) (hb : body ≠ []) :
    ownReadAttn p body s = s.refuse .badArgument := by
  cases body with
  | nil => exact absurd rfl hb
  | cons b body => rfl

theorem ownReadAttn_nil (p : Port) (s : State) :
    ownReadAttn p [] s =
      ({ s with attn := s.attn.put p (s.attn.get p).afterRead }, .reply .ok (s.attn.get p).readBytes) := rfl

/-! ### The obligation -/

/-- Settles O35: the entries the Attention Unit takes off the front of the set are those with fewer than 16 entries
before them. -/
theorem readAttn : Obligations.ReadAttn := by
  intro p s c rest hn
  refine ⟨fun hb => ?_, fun hb => ?_⟩
  · exact congrArg Host.Outcome.next (State.serve_of_unchanged hn (ownReadAttn_of_form p _ hb))
  · have own : ownReadAttn p c.body (s.taken rest) = _ := hb ▸ ownReadAttn_nil p (s.taken rest)
    rw [← AttnSet.afterRead_eq, ← AttnSet.readBytes_eq]
    exact congrArg Host.Outcome.next (State.serve_of_reply hn own)

end Sys2Proof.Machine
end

section
/-! PROOFS. The command without an owner (R161). A frame tells its result code, so a port that holds a BAD_COMMAND
result either held it before the step or had one composed in it. The shared operations compose OK results alone, no
owner answers BAD_COMMAND, and the arbiter composes one only for a code that names no command. -/

namespace Sys2Proof.Machine

/-! ### The result code in a result frame (Table 12-4, R185) -/

theorem ResultCode.eq_badCommand_of_code {r : ResultCode} (hr : r.code = ResultCode.badCommand.code) :
    r = .badCommand := by
  cases r with
  | badCommand => rfl
  | _ => exact absurd hr (by decide)

theorem eq_badCommand_of_resultFrame {tag tag' : Byte} {r : ResultCode} {body body' : List Byte}
    (hf : resultFrame tag r body = resultFrame tag' .badCommand body') : r = .badCommand := by
  simp only [resultFrame, withCrc, List.cons_append, List.cons.injEq] at hf
  obtain ⟨-, code, -⟩ := hf
  exact ResultCode.eq_badCommand_of_code code

/-! ### Ports that come to hold no new BAD_COMMAND result -/

/-- A port state is a BAD_COMMAND result that waits. -/
def PortState.HoldsBadCommand (st : PortState) : Prop :=
  ∃ tag bytes, st = .resultReady (resultFrame tag .badCommand bytes)

theorem PortState.not_holdsBadCommand_resultFrame {tag : Byte} {r : ResultCode} {bytes : List Byte}
    (hr : r ≠ .badCommand) : ¬(PortState.resultReady (resultFrame tag r bytes)).HoldsBadCommand := by
  rintro ⟨tag', bytes', e⟩
  exact hr (eq_badCommand_of_resultFrame (PortState.resultReady.inj e))

@[simp] theorem PortState.not_holdsBadCommand_idle : ¬PortState.idle.HoldsBadCommand := nofun

@[simp] theorem PortState.not_holdsBadCommand_working : ¬PortState.working.HoldsBadCommand := nofun

/-- A port that holds a BAD_COMMAND result after held the same before. -/
def PerPort.NoNewBadCommand (before after : PerPort HostPort) : Prop :=
  ∀ p, (after.get p).state.HoldsBadCommand → (before.get p).state = (after.get p).state

@[simp] theorem PerPort.NoNewBadCommand.refl (v : PerPort HostPort) : v.NoNewBadCommand v := fun _ _ => rfl

theorem PerPort.NoNewBadCommand.trans {u v w : PerPort HostPort} (huv : u.NoNewBadCommand v)
    (hvw : v.NoNewBadCommand w) : u.NoNewBadCommand w := by
  intro p hw
  have kept := hvw p hw
  exact (huv p (kept ▸ hw)).trans kept

/-- One port replaced by one that holds no BAD_COMMAND result, or the result it held before. -/
theorem PerPort.noNewBadCommand_put {v : PerPort HostPort} {p : Port} {h : HostPort}
    (hp : h.state.HoldsBadCommand → (v.get p).state = h.state) : v.NoNewBadCommand (v.put p h) := by
  intro q hq
  by_cases e : q = p
  · subst e
    rw [PerPort.get_put_same] at hq ⊢
    exact hp hq
  · rw [PerPort.get_put_other v p q h e]

theorem State.noNewBadCommand_compose (s : State) (p : Port) (tag : Byte) {r : ResultCode} (bytes : List Byte)
    (hr : r ≠ .badCommand) : s.ports.NoNewBadCommand (s.compose p tag r bytes).ports :=
  PerPort.noNewBadCommand_put fun holds => absurd holds (PortState.not_holdsBadCommand_resultFrame hr)

/-! ### Shared operations -/

theorem State.noNewBadCommand_answerParked (s : State) (waited : ParkKind → Bool) (body : ParkKind → List Byte) :
    s.ports.NoNewBadCommand (s.answerParked waited body).ports := by
  obtain same | ⟨k, -, -, answered⟩ := s.answerParked_cases waited body
  · simp [same]
  · rw [answered]
    split
    · exact .refl _
    · exact State.noNewBadCommand_compose _ _ _ _ (by decide)

theorem State.noNewBadCommand_endClosing (s : State) (h : Handle) (r : StreamRecord) :
    s.ports.NoNewBadCommand (s.endClosing h r).ports := by
  rw [← (s.frame_freeRecord h r).1]
  exact (s.freeRecord h r).noNewBadCommand_answerParked _ _

theorem State.noNewBadCommand_endCancelling (s : State) (id : ReqId) (q : Request) :
    s.ports.NoNewBadCommand (s.endCancelling id q).ports := by
  rw [← (s.frame_freeRequest id).1]
  exact (s.freeRequest id).noNewBadCommand_answerParked _ _

theorem State.noNewBadCommand_abandon (s : State) : s.ports.NoNewBadCommand s.abandon.ports := by
  obtain e | ⟨h, r, -, -, e⟩ | ⟨id, q, -, -, e⟩ := s.abandon_cases <;> rw [e]
  · exact .refl _
  · exact (s.setEngine .idle).noNewBadCommand_endClosing h r
  · exact (s.setEngine .idle).noNewBadCommand_endCancelling id q

theorem State.noNewBadCommand_enterFaulted (s : State) (cause : FaultCause) :
    s.ports.NoNewBadCommand (s.enterFaulted cause).ports := by
  simpa [State.enterFaulted] using s.noNewBadCommand_abandon

theorem State.noNewBadCommand_restartMarkFallsDue (s : State) :
    s.ports.NoNewBadCommand s.restartMarkFallsDue.ports := by
  unfold State.restartMarkFallsDue
  split
  · exact s.noNewBadCommand_enterFaulted _
  · simp

theorem State.noNewBadCommand_serviceResult (s : State) (h : Handle) (q : Poll) (o : ExchangeOutcome) :
    s.ports.NoNewBadCommand (s.serviceResult h q o).ports := by
  unfold State.serviceResult
  split
  · exact .refl _
  · next r _ =>
    cases r.state with
    | closing => exact s.noNewBadCommand_endClosing h r
    | active | suspended | faulted => simp

theorem State.noNewBadCommand_pieceResult (s : State) (id : ReqId) (n : Nat) (o : ExchangeOutcome) :
    s.ports.NoNewBadCommand (s.pieceResult id n o).ports := by
  unfold State.pieceResult
  split
  · exact .refl _
  · next q _ =>
    cases q.state with
    | cancelling => exact s.noNewBadCommand_endCancelling id q
    | active => cases o <;> simp
    | queued | done | failed => exact .refl _

theorem State.noNewBadCommand_endPiece (s : State) (id : ReqId) (k : Nat) (n : Node) (o : ExchangeOutcome) :
    s.ports.NoNewBadCommand (s.endPiece id k n o).ports := by
  unfold State.endPiece
  dsimp only
  split
  · split
    · simpa using (State.report { s with freeIndex := s.freeIndex + 1 } n o).noNewBadCommand_pieceResult id k o
    · simpa using State.noNewBadCommand_pieceResult { s with freeIndex := s.freeIndex + 1 } id k o
  · simpa using (s.report n o).noNewBadCommand_pieceResult id k o

theorem State.noNewBadCommand_endExchange (s : State) (x : Exchange) (o : ExchangeOutcome) :
    s.ports.NoNewBadCommand (s.endExchange x o).ports := by
  have service : ∀ h, s.ports.NoNewBadCommand ((s.report x.node o).serviceResult h x.poll o).ports := fun h => by
    simpa using (s.report x.node o).noNewBadCommand_serviceResult h x.poll o
  unfold State.endExchange
  simp only [State.frame_advance]
  split
  · exact service _
  · exact service _
  · exact service _
  · simp
  · exact s.noNewBadCommand_endPiece _ _ _ _

/-! ### The owners' answers -/

/-- An owner's answer to a command: no result that it gives is BAD_COMMAND, nor any that it lets a port come to hold. -/
def State.NeverBadCommand (s : State) (out : State × Answer) : Prop :=
  s.ports.NoNewBadCommand out.1.ports ∧ ∀ bytes, out.2 ≠ .reply .badCommand bytes

@[simp] theorem State.neverBadCommand_reply {s t : State} {r : ResultCode} {bytes : List Byte} :
    s.NeverBadCommand (t, .reply r bytes) ↔ s.ports.NoNewBadCommand t.ports ∧ r ≠ .badCommand := by
  simp [State.NeverBadCommand]

@[simp] theorem State.neverBadCommand_park {s t : State} {k : ParkKind} :
    s.NeverBadCommand (t, .park k) ↔ s.ports.NoNewBadCommand t.ports := by
  simp [State.NeverBadCommand]

@[simp] theorem State.neverBadCommand_refuse {s : State} {r : ResultCode} :
    s.NeverBadCommand (s.refuse r) ↔ r ≠ .badCommand := by
  simp [State.refuse]

theorem State.neverBadCommand_withRecord {s : State} {b : Byte} {act : Handle → StreamRecord → State × Answer}
    (ha : ∀ h r, s.NeverBadCommand (act h r)) : s.NeverBadCommand (s.withRecord b act) := by
  unfold State.withRecord
  split
  · simp
  · split
    · simp
    · exact ha _ _

theorem State.neverBadCommand_withOwnRecord {s : State} {p : Port} {b : Byte}
    {act : Handle → StreamRecord → State × Answer} (ha : ∀ h r, s.NeverBadCommand (act h r)) :
    s.NeverBadCommand (s.withOwnRecord p b act) :=
  State.neverBadCommand_withRecord fun h r => by
    split
    · exact ha h r
    · simp

theorem State.neverBadCommand_withOwnRequest {s : State} {p : Port} {body : List Byte}
    {act : ReqId → Request → State × Answer} (ha : ∀ id q, s.NeverBadCommand (act id q)) :
    s.NeverBadCommand (s.withOwnRequest p body act) := by
  unfold State.withOwnRequest
  split
  · simp
  · split
    · simp
    · split
      · simp
      · split
        · exact ha _ _
        · simp

/-! ### The Table Controller's commands -/

@[simp] theorem State.ports_openRecord (s : State) (p : Port) (h : Handle) (n : Node) (g : OpenArgs) (phase : Nat) :
    (s.openRecord p h n g phase).ports = s.ports := by
  unfold State.openRecord
  dsimp only
  split <;> simp

theorem State.neverBadCommand_judgeOpen (s : State) (p : Port) (n : Node) (g : OpenArgs) :
    s.NeverBadCommand (s.judgeOpen p n g) := by
  unfold State.judgeOpen
  dsimp only
  split
  · simp
  · split
    · simp
    · split
      · simp
      · split
        · simp
        · split <;> simp

theorem neverBadCommand_ownOpenStream (p : Port) (body : List Byte) (s : State) :
    s.NeverBadCommand (ownOpenStream p body s) := by
  unfold ownOpenStream
  split
  · simp
  · split
    · simp
    · split
      · simp
      · exact s.neverBadCommand_judgeOpen p _ _

@[simp] theorem State.ports_amendRecord (s : State) (h : Handle) (r : StreamRecord) (g : AmendArgs) (phase : Nat) :
    (s.amendRecord h r g phase).ports = s.ports := by
  simp [State.amendRecord]

theorem State.neverBadCommand_judgeAmend (s : State) (h : Handle) (r : StreamRecord) (g : AmendArgs)
    (released : Bool) : s.NeverBadCommand (s.judgeAmend h r g released) := by
  unfold State.judgeAmend
  dsimp only
  split
  · simp
  · split
    · simp
    · split
      · simp
      · split <;> simp

theorem neverBadCommand_ownAmendStream (p : Port) (body : List Byte) (s : State) :
    s.NeverBadCommand (ownAmendStream p body s) := by
  unfold ownAmendStream
  split
  · simp
  · refine State.neverBadCommand_withOwnRecord fun h r => ?_
    split
    · simp
    · simpa [State.NeverBadCommand] using (s.dropAmendment h r).neverBadCommand_judgeAmend h _ _ _

theorem neverBadCommand_ownCloseStream (p : Port) (body : List Byte) (s : State) :
    s.NeverBadCommand (ownCloseStream p body s) := by
  unfold ownCloseStream
  split
  · simp
  · refine State.neverBadCommand_withOwnRecord fun h r => ?_
    split
    · simp
    · split <;> simp

theorem neverBadCommand_ownReadStream (p : Port) (body : List Byte) (s : State) :
    s.NeverBadCommand (ownReadStream p body s) := by
  unfold ownReadStream
  split
  · simp
  · refine State.neverBadCommand_withRecord fun h r => ?_
    split
    · simp
    · split <;> simp

theorem neverBadCommand_ownFindStream (p : Port) (body : List Byte) (s : State) :
    s.NeverBadCommand (ownFindStream p body s) := by
  unfold ownFindStream
  split
  · simp
  · split
    · simp
    · split
      · simp
      · split <;> simp

@[simp] theorem State.ports_postRecord (s : State) (h : Handle) (r : StreamRecord) (value : List Byte) :
    (s.postRecord h r value).ports = s.ports := by
  simp [State.postRecord]

theorem neverBadCommand_ownPostValue (p : Port) (body : List Byte) (s : State) :
    s.NeverBadCommand (ownPostValue p body s) := by
  unfold ownPostValue
  split
  · simp
  · refine State.neverBadCommand_withOwnRecord fun h r => ?_
    split
    · simp
    · split <;> simp

@[simp] theorem State.ports_renewAll (s : State) (p : Port) : (s.renewAll p).ports = s.ports := rfl

theorem neverBadCommand_ownRenewLeases (p : Port) (body : List Byte) (s : State) :
    s.NeverBadCommand (ownRenewLeases p body s) := by
  unfold ownRenewLeases
  split <;> simp

theorem neverBadCommand_ownRestartStream (p : Port) (body : List Byte) (s : State) :
    s.NeverBadCommand (ownRestartStream p body s) := by
  unfold ownRestartStream
  split
  · simp
  · refine State.neverBadCommand_withOwnRecord fun h r => ?_
    split <;> simp

theorem neverBadCommand_ownReadLoad (p : Port) (body : List Byte) (s : State) :
    s.NeverBadCommand (ownReadLoad p body s) := by
  unfold ownReadLoad
  split
  · simp
  · split <;> simp

/-! ### The commands of the schedulers, the roster, the trunk and attention -/

@[simp] theorem State.ports_sendRequest (s : State) (p : Port) (id : ReqId) (n : Node) (g : SendArgs) :
    (s.sendRequest p id n g).ports = s.ports := by
  simp [State.sendRequest]

theorem neverBadCommand_ownSendRequest (p : Port) (body : List Byte) (s : State) :
    s.NeverBadCommand (ownSendRequest p body s) := by
  unfold ownSendRequest
  split
  · simp
  · split
    · simp
    · split
      · simp
      · split <;> simp

theorem neverBadCommand_ownFetchRequest (p : Port) (body : List Byte) (s : State) :
    s.NeverBadCommand (ownFetchRequest p body s) :=
  State.neverBadCommand_withOwnRequest fun id q => by cases q.state <;> simp

theorem neverBadCommand_ownCancelRequest (p : Port) (body : List Byte) (s : State) :
    s.NeverBadCommand (ownCancelRequest p body s) :=
  State.neverBadCommand_withOwnRequest fun id q => by
    split
    · simp
    · split <;> simp

theorem neverBadCommand_ownReadNode (p : Port) (body : List Byte) (s : State) :
    s.NeverBadCommand (ownReadNode p body s) := by
  unfold ownReadNode
  split
  · simp
  · split <;> simp

@[simp] theorem State.ports_scan (s : State) : s.scan.ports = s.ports := by
  unfold State.scan
  dsimp only
  split <;> simp

theorem neverBadCommand_ownScanNodes (p : Port) (body : List Byte) (s : State) :
    s.NeverBadCommand (ownScanNodes p body s) := by
  unfold ownScanNodes
  split <;> simp

@[simp] theorem State.ports_senseLfault (s : State) (lfault : Bool) : (s.senseLfault lfault).ports = s.ports := by
  unfold State.senseLfault
  split <;> rfl

theorem neverBadCommand_ownStartTrunk (lfault : Bool) (p : Port) (body : List Byte) (s : State) :
    s.NeverBadCommand (ownStartTrunk lfault p body s) := by
  unfold ownStartTrunk
  split
  · simp
  · split
    · simp
    · split
      · simp [State.refuse]
      · simpa using (s.senseLfault false).trunkRestart.noNewBadCommand_restartMarkFallsDue

@[simp] theorem State.ports_haltTrunk (s : State) : s.haltTrunk.ports = s.ports := by
  unfold State.haltTrunk
  cases s.trunk.state with
  | running => rfl
  | syncing => dsimp only; split <;> simp
  | off | draining | halted | faulted => rfl

theorem neverBadCommand_ownHaltTrunk (p : Port) (body : List Byte) (s : State) :
    s.NeverBadCommand (ownHaltTrunk p body s) := by
  unfold ownHaltTrunk
  split
  · simp
  · split <;> simp

@[simp] theorem State.ports_setConfig (s : State) (g : ConfigArgs) : (s.setConfig g).ports = s.ports := by
  unfold State.setConfig
  cases g.w <;> dsimp only <;> split <;> simp

theorem neverBadCommand_ownSetConfig (p : Port) (body : List Byte) (s : State) :
    s.NeverBadCommand (ownSetConfig p body s) := by
  unfold ownSetConfig
  split
  · simp
  · dsimp only
    split
    · simp
    · split
      · simp
      · split <;> simp

theorem neverBadCommand_ownReadConfig (p : Port) (body : List Byte) (s : State) :
    s.NeverBadCommand (ownReadConfig p body s) := by
  unfold ownReadConfig
  split <;> simp

theorem neverBadCommand_ownReadAttn (p : Port) (body : List Byte) (s : State) :
    s.NeverBadCommand (ownReadAttn p body s) := by
  unfold ownReadAttn
  split <;> simp

/-- SET_ATTN_MASK replaces the mask of its port and leaves what the port holds. -/
theorem neverBadCommand_ownSetAttnMask (p : Port) (body : List Byte) (s : State) :
    s.NeverBadCommand (ownSetAttnMask p body s) := by
  unfold ownSetAttnMask
  split
  · simp
  · exact State.neverBadCommand_reply.2 ⟨PerPort.noNewBadCommand_put fun _ => rfl, by decide⟩

/-! ### Every step -/

theorem State.noNewBadCommand_deliver {s : State} {out : State × Answer} (c : Command) (ho : s.NeverBadCommand out) :
    s.ports.NoNewBadCommand (out.1.deliver c out.2).ports := by
  obtain ⟨t, answer⟩ := out
  cases answer with
  | reply r bytes =>
    obtain ⟨owner_kept, hr⟩ := State.neverBadCommand_reply.1 ho
    exact owner_kept.trans (t.noNewBadCommand_compose _ _ _ hr)
  | park k => exact State.neverBadCommand_park.1 ho

theorem State.noNewBadCommand_serve (s : State) (p : Port) (name : CommandName)
    {owner : Port → List Byte → State → State × Answer}
    (ho : ∀ (q : Port) (body : List Byte) (u : State), u.NeverBadCommand (owner q body u)) :
    s.ports.NoNewBadCommand (s.serve p name owner).ports := by
  obtain same | ⟨c, rest, -, -, -, served⟩ := s.serve_cases p name owner
  · simp [same]
  · rw [served]
    exact State.noNewBadCommand_deliver c (ho p c.body (s.taken rest))

/-! ### The transactions on the host ports (R154 to R159, R163) -/

/-- A step's outcome in which no port comes to hold a new BAD_COMMAND result. -/
def State.StepsWithoutBadCommand (s : State) (o : Host.Outcome State Fault Refusal) : Prop :=
  ∀ t, o = .next t → s.ports.NoNewBadCommand t.ports

@[simp] theorem State.stepsWithoutBadCommand_next {s t : State} :
    s.StepsWithoutBadCommand (.next t) ↔ s.ports.NoNewBadCommand t.ports := by
  simp [State.StepsWithoutBadCommand]

/-- A port changed but not in what it holds. -/
theorem State.noNewBadCommand_updPort_of_state {s : State} {p : Port} {f : HostPort → HostPort}
    (hf : (f (s.ports.get p)).state = (s.ports.get p).state) :
    s.ports.NoNewBadCommand (s.updPort p f).ports :=
  PerPort.noNewBadCommand_put fun _ => hf.symm

/-- A port changed to one that holds no BAD_COMMAND result. -/
theorem State.noNewBadCommand_updPort_of_not_holds {s : State} {p : Port} {f : HostPort → HostPort}
    (hf : ¬(f (s.ports.get p)).state.HoldsBadCommand) : s.ports.NoNewBadCommand (s.updPort p f).ports :=
  PerPort.noNewBadCommand_put fun holds => absurd holds hf

@[simp] theorem State.noNewBadCommand_selRises (s : State) (p : Port) :
    s.ports.NoNewBadCommand (s.selRises p).ports :=
  State.noNewBadCommand_updPort_of_state rfl

@[simp] theorem State.noNewBadCommand_frameError (s : State) (p : Port) :
    s.ports.NoNewBadCommand (s.frameError p).ports :=
  State.noNewBadCommand_updPort_of_state rfl

@[simp] theorem State.noNewBadCommand_resultTaken (s : State) (p : Port) :
    s.ports.NoNewBadCommand (s.resultTaken p).ports :=
  State.noNewBadCommand_updPort_of_not_holds PortState.not_holdsBadCommand_idle

@[simp] theorem State.noNewBadCommand_judgeFrame (s : State) (p : Port) (c : Command) :
    s.ports.NoNewBadCommand (s.judgeFrame p c).ports := by
  unfold State.judgeFrame
  cases (s.ports.get p).state with
  | idle | resultReady _ => exact PerPort.noNewBadCommand_put fun holds => absurd holds (by simp)
  | working => exact State.noNewBadCommand_updPort_of_state rfl

@[simp] theorem State.ports_retireOwned (p : Port) (s : State) (h : Handle) :
    (State.retireOwned p s h).ports = s.ports := by
  unfold State.retireOwned
  split
  · rfl
  · split <;> simp

@[simp] theorem State.ports_cancelOwned (p : Port) (s : State) (id : ReqId) :
    (State.cancelOwned p s id).ports = s.ports := by
  unfold State.cancelOwned
  split
  · rfl
  · split <;> simp

theorem State.ports_endSession (s : State) (p : Port) : (s.endSession p).ports = s.ports.put p .reset := by
  simp [State.endSession, foldl_keeps (State.cancelOwned p) State.ports (fun s id => s.ports_cancelOwned p id),
    foldl_keeps (State.retireOwned p) State.ports (fun s h => s.ports_retireOwned p h)]

@[simp] theorem State.noNewBadCommand_endSession (s : State) (p : Port) :
    s.ports.NoNewBadCommand (s.endSession p).ports := by
  rw [State.ports_endSession]
  exact PerPort.noNewBadCommand_put fun holds => absurd holds PortState.not_holdsBadCommand_idle

theorem stepsWithoutBadCommand_selFalls (p : Port) (s : State) : s.StepsWithoutBadCommand (execSelFalls p s) := by
  unfold execSelFalls
  cases (s.ports.get p).txn with
  | high => exact State.stepsWithoutBadCommand_next.2 (State.noNewBadCommand_updPort_of_state rfl)
  | active _ _ | discarded => simp

theorem stepsWithoutBadCommand_kindByteWhole (p : Port) (s : State) :
    s.StepsWithoutBadCommand (execKindByteWhole p s) := by
  unfold execKindByteWhole
  split
  · exact State.stepsWithoutBadCommand_next.2 (State.noNewBadCommand_updPort_of_state rfl)
  all_goals simp

theorem stepsWithoutBadCommand_commandTransaction (p : Port) (sent : List Byte) (s : State) :
    s.StepsWithoutBadCommand (execCommandTransaction p sent s) := by
  unfold execCommandTransaction
  split
  · split <;> simp
  all_goals simp

theorem stepsWithoutBadCommand_resultTransaction (p : Port) (clocked : Nat) (s : State) :
    s.StepsWithoutBadCommand (execResultTransaction p clocked s) := by
  unfold execResultTransaction
  split
  · split <;> simp
  all_goals simp

theorem stepsWithoutBadCommand_portReset (p : Port) (sent : List Byte) (s : State) :
    s.StepsWithoutBadCommand (execPortReset p sent s) := by
  unfold execPortReset
  split
  · split <;> simp
  all_goals simp

theorem stepsWithoutBadCommand_transactionNotTaken (p : Port) (sent : List Byte) (s : State) :
    s.StepsWithoutBadCommand (execTransactionNotTaken p sent s) := by
  unfold execTransactionNotTaken
  split
  · split <;> simp
  all_goals simp

/-- A device reset leaves both ports IDLE. -/
theorem stepsWithoutBadCommand_deviceReset (selLowA selLowB : Bool) (s : State) :
    s.StepsWithoutBadCommand (execDeviceReset selLowA selLowB s) := by
  refine State.stepsWithoutBadCommand_next.2 fun p holds => ?_
  cases p with
  | a | b => exact absurd holds PortState.not_holdsBadCommand_idle

/-! ### The events of the trunk and of the cycle -/

theorem stepsWithoutBadCommand_lfaultAsserted (s : State) : s.StepsWithoutBadCommand (execLfaultAsserted s) := by
  unfold execLfaultAsserted
  dsimp only
  split
  · simp
  · simpa using (State.placeArrived { s with pins := { s.pins with lfault := true } }).noNewBadCommand_enterFaulted
      .lfaultAsserted

theorem stepsWithoutBadCommand_restartMarkDue (s : State) : s.StepsWithoutBadCommand (execRestartMarkDue s) := by
  unfold execRestartMarkDue
  split
  · simpa using s.noNewBadCommand_restartMarkFallsDue
  · simp

theorem stepsWithoutBadCommand_restartMarkEnd (s : State) : s.StepsWithoutBadCommand (execRestartMarkEnd s) := by
  unfold execRestartMarkEnd
  dsimp only
  split
  · split <;> simp
  · simp

theorem stepsWithoutBadCommand_cycleMarkDue (s : State) : s.StepsWithoutBadCommand (execCycleMarkDue s) := by
  unfold execCycleMarkDue
  split
  · simp
  · split
    · simpa using s.noNewBadCommand_enterFaulted .lineJammed
    · simp

theorem stepsWithoutBadCommand_cycleMarkEnd (s : State) : s.StepsWithoutBadCommand (execCycleMarkEnd s) := by
  unfold execCycleMarkEnd
  split <;> simp

theorem stepsWithoutBadCommand_drainEnd (s : State) : s.StepsWithoutBadCommand (execDrainEnd s) := by
  unfold execDrainEnd
  split
  · split
    · simpa using s.noNewBadCommand_enterFaulted .lineJammed
    · simp
  · simp

theorem stepsWithoutBadCommand_guardStart (s : State) : s.StepsWithoutBadCommand (execGuardStart s) := by
  unfold execGuardStart
  split <;> simp

theorem stepsWithoutBadCommand_leaseExpiry (h : Handle) (s : State) :
    s.StepsWithoutBadCommand (execLeaseExpiry h s) := by
  simp [execLeaseExpiry]

/-! ### The schedulers' turns -/

@[simp] theorem State.ports_turnCyclic (s : State) : s.turnCyclic.ports = s.ports := by
  unfold State.turnCyclic
  split
  · simp
  · split
    · rfl
    · split
      · rfl
      · split <;> simp

theorem stepsWithoutBadCommand_firstAttemptStart (s : State) :
    s.StepsWithoutBadCommand (execFirstAttemptStart s) := by
  unfold execFirstAttemptStart
  split <;> simp

@[simp] theorem State.ports_turnRetry (s : State) : s.turnRetry.ports = s.ports := by
  unfold State.turnRetry
  split
  · simp
  · split
    · rfl
    · split
      · rfl
      · split <;> simp

theorem stepsWithoutBadCommand_retryStart (s : State) : s.StepsWithoutBadCommand (execRetryStart s) := by
  unfold execRetryStart
  split <;> simp

@[simp] theorem State.ports_toPieces (s : State) : s.toPieces.ports = s.ports := by
  simp [State.toPieces]

@[simp] theorem State.ports_turnProbe (s : State) : s.turnProbe.ports = s.ports := by
  unfold State.turnProbe
  split
  · simp
  · split
    · simp
    · split
      · rfl
      · split <;> simp

theorem stepsWithoutBadCommand_probeStart (s : State) : s.StepsWithoutBadCommand (execProbeStart s) := by
  unfold execProbeStart
  split <;> simp

@[simp] theorem State.ports_endAcyclic (s : State) : s.endAcyclic.ports = s.ports := rfl

@[simp] theorem State.ports_turnPiece (s : State) : s.turnPiece.ports = s.ports := by
  unfold State.turnPiece
  split
  · rfl
  · split
    · rfl
    · split
      · rfl
      · split
        · rfl
        · split <;> simp

theorem stepsWithoutBadCommand_pieceStart (s : State) : s.StepsWithoutBadCommand (execPieceStart s) := by
  unfold execPieceStart
  split <;> simp

/-! ### The events of the Exchange Engine -/

/-- An exchange ends in a state in which the ports stand as they did. -/
theorem State.stepsWithoutBadCommand_endExchange {s u : State} (hu : u.ports = s.ports) (x : Exchange)
    (o : ExchangeOutcome) : s.StepsWithoutBadCommand (.next (u.endExchange x o)) :=
  State.stepsWithoutBadCommand_next.2 (hu ▸ u.noNewBadCommand_endExchange x o)

theorem stepsWithoutBadCommand_pollSent (s : State) : s.StepsWithoutBadCommand (execPollSent s) := by
  unfold execPollSent
  split
  · split <;> simp
  all_goals simp

theorem stepsWithoutBadCommand_replyBegin (turnaround : Nat) (s : State) :
    s.StepsWithoutBadCommand (execReplyBegin turnaround s) := by
  unfold execReplyBegin
  split
  · split <;> simp
  all_goals simp

theorem stepsWithoutBadCommand_exchangeTimeout (s : State) : s.StepsWithoutBadCommand (execExchangeTimeout s) := by
  unfold execExchangeTimeout
  split
  · next x _ =>
    split
    · exact State.stepsWithoutBadCommand_endExchange (by simp) x _
    · simp
  all_goals simp

theorem stepsWithoutBadCommand_replyEnd (bytes : List Byte) (gaps : Nat) (s : State) :
    s.StepsWithoutBadCommand (execReplyEnd bytes gaps s) := by
  unfold execReplyEnd
  split
  · next x _ _ =>
    dsimp only
    split
    · exact State.stepsWithoutBadCommand_endExchange (by simp) x _
    · simp
  all_goals simp

theorem stepsWithoutBadCommand_slotEndOverlong (bytes : List Byte) (s : State) :
    s.StepsWithoutBadCommand (execSlotEndOverlong bytes s) := by
  unfold execSlotEndOverlong
  split
  · next x _ _ =>
    split
    · exact State.stepsWithoutBadCommand_endExchange (by simp) x _
    · simp
  all_goals simp

theorem stepsWithoutBadCommand_quietingEnd (after : Nat) (s : State) :
    s.StepsWithoutBadCommand (execQuietingEnd after s) := by
  unfold execQuietingEnd
  split
  · split <;> simp
  all_goals simp

theorem stepsWithoutBadCommand_quietingBound (s : State) : s.StepsWithoutBadCommand (execQuietingBound s) := by
  unfold execQuietingBound
  split
  · split
    · simpa using s.noNewBadCommand_enterFaulted .lineJammed
    · simp
  all_goals simp

theorem stepsWithoutBadCommand_strayBytes (elapsed : Nat) (receiving : Bool) (s : State) :
    s.StepsWithoutBadCommand (execStrayBytes elapsed receiving s) := by
  unfold execStrayBytes
  dsimp only
  split
  · split
    · simp
    · split <;> simp
  · simp

/-! ### BAD_COMMAND and every other command (R161) -/

theorem codeDefined_iff {code : Byte} : codeDefined code = true ↔ 1 ≤ code.toNat ∧ code.toNat ≤ 20 := by
  simp [codeDefined]

/-- A waiting code that names no command is taken and answered. -/
theorem execBadCommand_of_undefined {s : State} {c : Command} {rest : List Command}
    (hw : s.arbiter.waiting = c :: rest) (hc : codeDefined c.code = false) :
    execBadCommand c.port s = .next (s.answered c rest .badCommand []) := by
  have taken : s.takeCommand c.port (fun code => !codeDefined code) = some (c, s.taken rest) :=
    State.takeCommand_eq_some.2 ⟨rest, hw, rfl, by simp [hc], rfl⟩
  rw [execBadCommand, taken]
  rfl

/-- A waiting code that names a command is left to its owner. -/
theorem execBadCommand_of_defined (p : Port) {s : State} {c : Command} {rest : List Command}
    (hw : s.arbiter.waiting = c :: rest) (hc : codeDefined c.code = true) : execBadCommand p s = .next s := by
  simp [execBadCommand, State.takeCommand, hw, hc]

theorem stepsWithoutBadCommand_serve (s : State) (p : Port) (name : CommandName)
    {owner : Port → List Byte → State → State × Answer}
    (ho : ∀ (q : Port) (body : List Byte) (u : State), u.NeverBadCommand (owner q body u)) :
    s.StepsWithoutBadCommand (.next (s.serve p name owner)) :=
  State.stepsWithoutBadCommand_next.2 (s.noNewBadCommand_serve p name ho)

/-- While the arbiter's next command has a defined code, no step lets a port come to hold a BAD_COMMAND result. -/
theorem exec_stepsWithoutBadCommand (i : Instr) {s : State} {c : Command} {rest : List Command}
    (hw : s.arbiter.waiting = c :: rest) (hc : codeDefined c.code = true) : s.StepsWithoutBadCommand (exec i s) := by
  cases i with
  | openStream p => exact stepsWithoutBadCommand_serve s p _ neverBadCommand_ownOpenStream
  | amendStream p => exact stepsWithoutBadCommand_serve s p _ neverBadCommand_ownAmendStream
  | closeStream p => exact stepsWithoutBadCommand_serve s p _ neverBadCommand_ownCloseStream
  | readStream p => exact stepsWithoutBadCommand_serve s p _ neverBadCommand_ownReadStream
  | findStream p => exact stepsWithoutBadCommand_serve s p _ neverBadCommand_ownFindStream
  | postValue p => exact stepsWithoutBadCommand_serve s p _ neverBadCommand_ownPostValue
  | renewLeases p => exact stepsWithoutBadCommand_serve s p _ neverBadCommand_ownRenewLeases
  | restartStream p => exact stepsWithoutBadCommand_serve s p _ neverBadCommand_ownRestartStream
  | readLoad p => exact stepsWithoutBadCommand_serve s p _ neverBadCommand_ownReadLoad
  | sendRequest p => exact stepsWithoutBadCommand_serve s p _ neverBadCommand_ownSendRequest
  | fetchRequest p => exact stepsWithoutBadCommand_serve s p _ neverBadCommand_ownFetchRequest
  | cancelRequest p => exact stepsWithoutBadCommand_serve s p _ neverBadCommand_ownCancelRequest
  | readNode p => exact stepsWithoutBadCommand_serve s p _ neverBadCommand_ownReadNode
  | scanNodes p => exact stepsWithoutBadCommand_serve s p _ neverBadCommand_ownScanNodes
  | startTrunk p lfault => exact stepsWithoutBadCommand_serve s p _ (neverBadCommand_ownStartTrunk lfault)
  | haltTrunk p => exact stepsWithoutBadCommand_serve s p _ neverBadCommand_ownHaltTrunk
  | setConfig p => exact stepsWithoutBadCommand_serve s p _ neverBadCommand_ownSetConfig
  | readConfig p => exact stepsWithoutBadCommand_serve s p _ neverBadCommand_ownReadConfig
  | readAttn p => exact stepsWithoutBadCommand_serve s p _ neverBadCommand_ownReadAttn
  | setAttnMask p => exact stepsWithoutBadCommand_serve s p _ neverBadCommand_ownSetAttnMask
  | badCommand p =>
    rw [exec, execBadCommand_of_defined p hw hc]
    simp
  | commandTransaction p sent => exact stepsWithoutBadCommand_commandTransaction p sent s
  | resultTransaction p clocked => exact stepsWithoutBadCommand_resultTransaction p clocked s
  | portReset p sent => exact stepsWithoutBadCommand_portReset p sent s
  | transactionNotTaken p sent => exact stepsWithoutBadCommand_transactionNotTaken p sent s
  | deviceReset selLowA selLowB => exact stepsWithoutBadCommand_deviceReset selLowA selLowB s
  | lfaultAsserted => exact stepsWithoutBadCommand_lfaultAsserted s
  | restartMarkDue => exact stepsWithoutBadCommand_restartMarkDue s
  | restartMarkEnd => exact stepsWithoutBadCommand_restartMarkEnd s
  | cycleMarkDue => exact stepsWithoutBadCommand_cycleMarkDue s
  | cycleMarkEnd => exact stepsWithoutBadCommand_cycleMarkEnd s
  | drainEnd => exact stepsWithoutBadCommand_drainEnd s
  | guardStart => exact stepsWithoutBadCommand_guardStart s
  | leaseExpiry h => exact stepsWithoutBadCommand_leaseExpiry h s
  | firstAttemptStart => exact stepsWithoutBadCommand_firstAttemptStart s
  | retryStart => exact stepsWithoutBadCommand_retryStart s
  | probeStart => exact stepsWithoutBadCommand_probeStart s
  | pieceStart => exact stepsWithoutBadCommand_pieceStart s
  | pollSent => exact stepsWithoutBadCommand_pollSent s
  | replyBegin turnaround => exact stepsWithoutBadCommand_replyBegin turnaround s
  | exchangeTimeout => exact stepsWithoutBadCommand_exchangeTimeout s
  | replyEnd bytes gaps => exact stepsWithoutBadCommand_replyEnd bytes gaps s
  | slotEndOverlong bytes => exact stepsWithoutBadCommand_slotEndOverlong bytes s
  | quietingEnd after => exact stepsWithoutBadCommand_quietingEnd after s
  | quietingBound => exact stepsWithoutBadCommand_quietingBound s
  | selFalls p => exact stepsWithoutBadCommand_selFalls p s
  | kindByteWhole p => exact stepsWithoutBadCommand_kindByteWhole p s
  | strayBytes elapsed receiving => exact stepsWithoutBadCommand_strayBytes elapsed receiving s

/-! ### The obligation -/

/-- Settles O37: the arbiter answers a code that names no command itself, and while a defined code waits no step
composes a BAD_COMMAND result, so a port that holds one held it before. -/
theorem badCommand : Obligations.BadCommand := by
  constructor
  · intro p s c rest hw hp hc
    have undefined : codeDefined c.code = false := Bool.eq_false_iff.2 fun h => by
      have := codeDefined_iff.1 h
      omega
    exact hp ▸ execBadCommand_of_undefined hw undefined
  · intro i s c rest t bytes hw hlo hhi hexec held
    have kept := exec_stepsWithoutBadCommand i hw (codeDefined_iff.2 ⟨hlo, hhi⟩) t hexec c.port
    exact (kept ⟨c.tag, bytes, held⟩).trans held

end Sys2Proof.Machine
end

section
/-! PROOFS. What the live records hold between them: keys, stream counts, charges and blocks (R4, R28, R43, R124). A step
either leaves every record's claims as they are, or replaces one record and moves its charge and its blocks with it; the
invariants of the shared resources follow from these two forms. -/

namespace Sys2Proof.Machine

/-! ### Sums and lists over the handles when one handle's part is replaced -/

theorem handles_perm_cons (h : Handle) : handles.Perm (h :: handles.erase h) :=
  List.perm_cons_erase (List.mem_finRange h)

theorem ne_of_mem_erase_handles {h k : Handle} (hk : k ∈ handles.erase h) : k ≠ h :=
  ((List.Nodup.mem_erase_iff (List.nodup_finRange 64)).1 hk).1

theorem sum_handles_replaced {f g : Handle → Nat} (h : Handle) (hk : ∀ k, k ≠ h → g k = f k) :
    (handles.map g).sum + f h = (handles.map f).sum + g h := by
  have others : (handles.erase h).map g = (handles.erase h).map f :=
    List.map_congr_left fun k hm => hk k (ne_of_mem_erase_handles hm)
  rw [((handles_perm_cons h).map g).sum_eq, ((handles_perm_cons h).map f).sum_eq, List.map_cons, List.map_cons,
    List.sum_cons, List.sum_cons, others]
  omega

theorem flatMap_handles_replaced {α : Type} {f g : Handle → List α} (h : Handle) (hk : ∀ k, k ≠ h → g k = f k) :
    (handles.flatMap g ++ f h).Perm (handles.flatMap f ++ g h) := by
  have others : (handles.erase h).flatMap g = (handles.erase h).flatMap f :=
    List.flatMap_congr fun k hm => hk k (ne_of_mem_erase_handles hm)
  have split : ∀ e : Handle → List α, (handles.flatMap e).Perm (e h ++ (handles.erase h).flatMap e) := fun e =>
    ((handles_perm_cons h).flatMap_right e).trans (by rw [List.flatMap_cons])
  refine ((split g).append_right _).trans (.trans ?_ ((split f).append_right _).symm)
  rw [others]
  refine (List.perm_append_comm).trans ?_
  rw [← List.append_assoc]
  exact ((List.perm_append_comm).append_right _).trans (by
    rw [List.append_assoc, List.append_assoc]
    exact List.perm_append_comm.trans (.of_eq (List.append_assoc _ _ _)))

theorem countP_handles_replaced {p q : Handle → Bool} (h : Handle) (hk : ∀ k, k ≠ h → q k = p k) :
    handles.countP q + (p h).toNat = handles.countP p + (q h).toNat := by
  have others : (handles.erase h).countP q = (handles.erase h).countP p :=
    List.countP_congr fun k hm => by rw [hk k (ne_of_mem_erase_handles hm)]
  rw [(handles_perm_cons h).countP_eq q, (handles_perm_cons h).countP_eq p, List.countP_cons, List.countP_cons, others]
  cases p h <;> cases q h <;> simp

/-! ### The claims of a record -/

/-- What a live record holds of what the records share: its key, the parameters it is charged for, its blocks and its
pending amendment. -/
structure StreamRecord.Claim where
  node : Node
  channel : Nat
  direction : Direction
  params : Params
  blocks : List Block
  amendment : Option Amendment

def StreamRecord.claim (r : StreamRecord) : StreamRecord.Claim :=
  ⟨r.node, r.channel, r.direction, r.params, r.blocks, r.amendment⟩

/-- The claims at a handle, if its record is live. -/
def State.claimAt (s : State) (h : Handle) : Option StreamRecord.Claim := (s.record h).map StreamRecord.claim

theorem StreamRecord.claim_eq_iff {r q : StreamRecord} :
    r.claim = q.claim ↔ r.node = q.node ∧ r.channel = q.channel ∧ r.direction = q.direction ∧ r.params = q.params ∧
      r.blocks = q.blocks ∧ r.amendment = q.amendment := by
  simp [StreamRecord.claim]

/-- A live record after has a live record with the same claims before it. -/
theorem State.record_of_claims {s t : State} (hc : ∀ h, t.claimAt h = s.claimAt h) {h : Handle} {r : StreamRecord}
    (hr : t.record h = some r) : ∃ q, s.record h = some q ∧ q.claim = r.claim := by
  have := hc h
  simp only [State.claimAt, hr, Option.map_some] at this
  exact Option.map_eq_some_iff.1 this.symm

theorem State.keysDistinct_of_claims {s t : State} (hc : ∀ h, t.claimAt h = s.claimAt h) (hs : s.KeysDistinct) :
    t.KeysDistinct := by
  intro h k r q hr hq hn hch hd
  obtain ⟨r', hr', er⟩ := State.record_of_claims hc hr
  obtain ⟨q', hq', eq⟩ := State.record_of_claims hc hq
  obtain ⟨rn, rc, rd, -⟩ := StreamRecord.claim_eq_iff.1 er
  obtain ⟨qn, qc, qd, -⟩ := StreamRecord.claim_eq_iff.1 eq
  exact hs h k r' q' hr' hq' (rn.trans (hn.trans qn.symm)) (rc.trans (hch.trans qc.symm)) (rd.trans (hd.trans qd.symm))

/-- A function of a record's claims has the same value at each handle when the claims are the same. -/
theorem State.elim_record_of_claims {β : Type} {s t : State} (hc : ∀ h, t.claimAt h = s.claimAt h) (b : β)
    (f : StreamRecord → β) (hf : ∀ r q : StreamRecord, r.claim = q.claim → f r = f q) (h : Handle) :
    (t.record h).elim b f = (s.record h).elim b f := by
  have := hc h
  unfold State.claimAt at this
  cases ht : t.record h <;> cases hs : s.record h <;> simp [ht, hs] at this ⊢
  exact hf _ _ this

/-! ### Stream counts, charges and blocks as sums over the handles -/

/-- The record at a handle, if live, names the node. -/
def State.names (s : State) (n : Node) (h : Handle) : Bool := (s.record h).elim false fun r => r.node == n

theorem State.liveAt_eq (s : State) (n : Node) : s.liveAt n = handles.countP (s.names n) := by
  unfold State.liveAt
  congr 1
  funext h
  unfold State.names
  cases s.record h <;> rfl

/-- What the record at a handle, if live, charges at an index. -/
def State.chargeOf (s : State) (k : Nat) (h : Handle) : Nat :=
  (s.record h).elim 0 fun r => r.chargedAt s.trunk.applied.w k

theorem State.chargedAt_eq (s : State) (k : Nat) : s.chargedAt k = (handles.map (s.chargeOf k)).sum := by
  unfold State.chargedAt
  congr 2
  funext h
  unfold State.chargeOf
  cases s.record h <;> rfl

/-- The blocks that the record at a handle, if live, lists. -/
def State.blocksOf (s : State) (h : Handle) : List Block := (s.record h).elim [] StreamRecord.listedBlocks

theorem State.listedBlocks_eq (s : State) : s.listedBlocks = handles.flatMap s.blocksOf := by
  unfold State.listedBlocks
  congr 1
  funext h
  unfold State.blocksOf
  cases s.record h <;> rfl

theorem State.names_of_claims {s t : State} (hc : ∀ h, t.claimAt h = s.claimAt h) (n : Node) : t.names n = s.names n :=
  funext fun h => State.elim_record_of_claims hc false _
    (fun r q e => by rw [(StreamRecord.claim_eq_iff.1 e).1]) h

theorem State.chargeOf_of_claims {s t : State} (hc : ∀ h, t.claimAt h = s.claimAt h)
    (hw : t.trunk.applied.w = s.trunk.applied.w) (k : Nat) : t.chargeOf k = s.chargeOf k := by
  funext h
  unfold State.chargeOf
  rw [hw]
  refine State.elim_record_of_claims hc 0 _ (fun r q e => ?_) h
  obtain ⟨-, -, -, hp, -, ha⟩ := StreamRecord.claim_eq_iff.1 e
  simp only [StreamRecord.chargedAt, hp, ha]

theorem State.blocksOf_of_claims {s t : State} (hc : ∀ h, t.claimAt h = s.claimAt h) : t.blocksOf = s.blocksOf := by
  funext h
  refine State.elim_record_of_claims hc [] _ (fun r q e => ?_) h
  obtain ⟨-, -, -, -, hb, ha⟩ := StreamRecord.claim_eq_iff.1 e
  simp only [StreamRecord.listedBlocks, hb, ha]

theorem StreamRecord.Sized.of_claim {r q : StreamRecord} (hc : r.claim = q.claim) (hr : r.Sized) : q.Sized := by
  obtain ⟨-, -, -, hp, hb, ha⟩ := StreamRecord.claim_eq_iff.1 hc
  unfold StreamRecord.Sized at hr ⊢
  rwa [← hp, ← hb, ← ha]

theorem StreamRecord.chargedAt_eq (r : StreamRecord) (w k : Nat) :
    r.chargedAt w k = r.params.chargeAt w k + r.amendment.elim 0 fun am => am.params.chargeAt w k := by
  unfold StreamRecord.chargedAt
  cases r.amendment <;> rfl

theorem StreamRecord.listedBlocks_eq (r : StreamRecord) :
    r.listedBlocks = r.blocks ++ r.amendment.elim [] fun am => am.blocks.getD [] := by
  unfold StreamRecord.listedBlocks
  cases r.amendment <;> rfl

/-! ### The free block set (R43, R46) -/

theorem mem_insertBlock {b x : Block} {l : List Block} : x ∈ insertBlock b l ↔ x = b ∨ x ∈ l := by
  induction l with
  | nil => simp [insertBlock]
  | cons a l ih =>
    unfold insertBlock
    split
    · simp
    · split
      · next e => simp [e]
      · simp only [List.mem_cons, ih]
        tauto

theorem insertBlock_perm {b : Block} {l : List Block} (hb : b ∉ l) : (insertBlock b l).Perm (b :: l) := by
  induction l with
  | nil => exact .refl _
  | cons a l ih =>
    obtain ⟨hne, hl⟩ := not_or.1 (List.mem_cons.not.1 hb)
    simp only [insertBlock, if_neg hne]
    split
    · exact .refl _
    · exact ((ih hl).cons a).trans (.swap b a l)

theorem insertBlock_ascending {b : Block} {l : List Block} (hl : l.Pairwise (· < ·)) :
    (insertBlock b l).Pairwise (· < ·) := by
  induction l with
  | nil => simp [insertBlock]
  | cons a l ih =>
    obtain ⟨above, tail⟩ := List.pairwise_cons.1 hl
    unfold insertBlock
    split
    · next hba =>
      refine List.pairwise_cons.2 ⟨fun x hx => ?_, hl⟩
      rcases List.mem_cons.1 hx with rfl | hx
      · exact hba
      · exact lt_trans hba (above x hx)
    · next hba =>
      split
      · exact hl
      · next hne =>
        refine List.pairwise_cons.2 ⟨fun x hx => ?_, ih tail⟩
        rcases mem_insertBlock.1 hx with rfl | hx
        · exact lt_of_le_of_ne (not_lt.1 hba) (Ne.symm hne)
        · exact above x hx

theorem mem_foldl_insertBlock {x : Block} {blocks free : List Block} :
    x ∈ blocks.foldl (fun free b => insertBlock b free) free ↔ x ∈ free ∨ x ∈ blocks := by
  induction blocks generalizing free with
  | nil => simp
  | cons b blocks ih =>
    rw [List.foldl_cons, ih, mem_insertBlock, List.mem_cons]
    tauto

theorem foldl_insertBlock_perm {blocks free : List Block} (hn : (free ++ blocks).Nodup) :
    (blocks.foldl (fun free b => insertBlock b free) free).Perm (free ++ blocks) := by
  induction blocks generalizing free with
  | nil => simp
  | cons b blocks ih =>
    have hp : (free ++ b :: blocks).Perm (b :: free ++ blocks) := List.perm_middle
    have hn' := hp.nodup_iff.1 hn
    have hb : b ∉ free := fun hm => (List.nodup_cons.1 hn').1 (List.mem_append_left _ hm)
    have hi : (insertBlock b free ++ blocks).Perm (b :: free ++ blocks) := (insertBlock_perm hb).append_right _
    rw [List.foldl_cons]
    exact (ih (hi.nodup_iff.2 hn')).trans (hi.trans hp.symm)

theorem foldl_insertBlock_ascending {blocks free : List Block} (hf : free.Pairwise (· < ·)) :
    (blocks.foldl (fun free b => insertBlock b free) free).Pairwise (· < ·) := by
  induction blocks generalizing free with
  | nil => exact hf
  | cons b blocks ih => exact ih (insertBlock_ascending hf)

theorem State.mem_releaseBlocks {s : State} {blocks : List Block} {b : Block} :
    b ∈ (s.releaseBlocks blocks).store.free ↔ b ∈ s.store.free ∨ b ∈ blocks :=
  mem_foldl_insertBlock

@[simp] theorem State.mem_store_releaseBlocks (s : State) (blocks : List Block) :
    (s.releaseBlocks blocks).store.mem = s.store.mem := rfl

@[simp] theorem State.releaseBlocks_nil (s : State) : s.releaseBlocks [] = s := rfl

theorem poolBlocks_nodup : poolBlocks.Nodup :=
  (List.nodup_finRange 320).map fun a b h => by simpa [Fin.ext_iff] using h

/-! ### One record replaced -/

/-- `t` holds `o` at a handle and every other record as `s` does. -/
def State.Replaced (s : State) (h : Handle) (o : Option StreamRecord) (t : State) : Prop :=
  t.record h = o ∧ ∀ k, k ≠ h → t.record k = s.record k

theorem State.Replaced.cases {s t : State} {h : Handle} {o : Option StreamRecord} (hr : s.Replaced h o t) {k : Handle}
    {q : StreamRecord} (hq : t.record k = some q) : k = h ∧ o = some q ∨ k ≠ h ∧ s.record k = some q := by
  by_cases e : k = h
  · subst e
    exact .inl ⟨rfl, hr.1 ▸ hq⟩
  · exact .inr ⟨e, (hr.2 k e) ▸ hq⟩

theorem State.Replaced.closingBare {s t : State} {h : Handle} {o : Option StreamRecord} (hr : s.Replaced h o t)
    (ho : ∀ r, o = some r → r.state = .closing → r.amendment = none) (hs : s.ClosingBare) : t.ClosingBare := by
  intro k q hq hc
  obtain ⟨-, e⟩ | ⟨-, e⟩ := hr.cases hq
  · exact ho q e hc
  · exact hs k q e hc

/-- A record replaced by one with the same key. -/
theorem State.Replaced.keysDistinct {s t : State} {h : Handle} {o : Option StreamRecord} (hr : s.Replaced h o t)
    (ho : ∀ r, o = some r → ∃ q, s.record h = some q ∧ q.node = r.node ∧ q.channel = r.channel ∧ q.direction = r.direction)
    (hs : s.KeysDistinct) : t.KeysDistinct := by
  have old : ∀ k r, t.record k = some r →
      ∃ q, s.record k = some q ∧ q.node = r.node ∧ q.channel = r.channel ∧ q.direction = r.direction := by
    intro k r hk
    obtain ⟨rfl, e⟩ | ⟨-, e⟩ := hr.cases hk
    · exact ho r e
    · exact ⟨r, e, rfl, rfl, rfl⟩
  intro k l r q hk hl hn hc hd
  obtain ⟨r', hr', rn, rc, rd⟩ := old k r hk
  obtain ⟨q', hq', qn, qc, qd⟩ := old l q hl
  exact hs k l r' q' hr' hq' (rn.trans (hn.trans qn.symm)) (rc.trans (hc.trans qc.symm)) (rd.trans (hd.trans qd.symm))

/-- A record created with a key that no live record holds. -/
theorem State.Replaced.keysDistinct_of_keyFree {s t : State} {h : Handle} {r : StreamRecord}
    (hr : s.Replaced h (some r) t) (free : keyFree s r.node r.channel r.direction) (hs : s.KeysDistinct) :
    t.KeysDistinct := by
  intro k l a b hk hl hn hc hd
  obtain ⟨rfl, ea⟩ | ⟨-, ea⟩ := hr.cases hk <;> obtain ⟨rfl, eb⟩ | ⟨-, eb⟩ := hr.cases hl
  · rfl
  · cases ea
    exact absurd ⟨hn.symm, hc.symm, hd.symm⟩ (free _ b eb)
  · cases eb
    exact absurd ⟨hn, hc, hd⟩ (free _ a ea)
  · exact hs k l a b ea eb hn hc hd

theorem State.Replaced.liveAt {s t : State} {h : Handle} {o : Option StreamRecord} (hr : s.Replaced h o t) (n : Node) :
    t.liveAt n + (s.names n h).toNat = s.liveAt n + (o.elim false fun r => r.node == n).toNat := by
  have new : t.names n h = o.elim false fun r => r.node == n := by rw [State.names, hr.1]
  rw [State.liveAt_eq, State.liveAt_eq, ← new]
  exact countP_handles_replaced h fun k hk => by rw [State.names, State.names, hr.2 k hk]

theorem State.Replaced.chargedAt {s t : State} {h : Handle} {o : Option StreamRecord} (hr : s.Replaced h o t)
    (hw : t.trunk.applied.w = s.trunk.applied.w) (k : Nat) :
    t.chargedAt k + s.chargeOf k h = s.chargedAt k + o.elim 0 fun r => r.chargedAt s.trunk.applied.w k := by
  have new : t.chargeOf k h = o.elim 0 fun r => r.chargedAt s.trunk.applied.w k := by rw [State.chargeOf, hr.1, hw]
  rw [State.chargedAt_eq, State.chargedAt_eq, ← new]
  exact sum_handles_replaced h fun l hl => by rw [State.chargeOf, State.chargeOf, hr.2 l hl, hw]

theorem State.Replaced.listedBlocks {s t : State} {h : Handle} {o : Option StreamRecord} (hr : s.Replaced h o t) :
    (t.listedBlocks ++ s.blocksOf h).Perm (s.listedBlocks ++ o.elim [] StreamRecord.listedBlocks) := by
  have new : t.blocksOf h = o.elim [] StreamRecord.listedBlocks := by rw [State.blocksOf, hr.1]
  rw [State.listedBlocks_eq, State.listedBlocks_eq, ← new]
  exact flatMap_handles_replaced h fun k hk => by rw [State.blocksOf, State.blocksOf, hr.2 k hk]

/-- The Load Map stays true when the entries change by what the replaced record's charges change. -/
theorem State.Replaced.loadTrue {s t : State} {h : Handle} {o : Option StreamRecord} (hr : s.Replaced h o t)
    (htrunk : t.trunk = s.trunk)
    (hload : ∀ k : Fin 128, s.table.load[k.val] = s.chargedAt k.val → t.table.load[k.val] + s.chargeOf k.val h =
      s.table.load[k.val] + o.elim 0 fun r => r.chargedAt s.trunk.applied.w k.val)
    (hlimit : ∀ k : Fin 128, s.table.load[k.val] ≤ s.trunk.admissionLimit →
      t.table.load[k.val] ≤ s.trunk.admissionLimit)
    (hbare : ∀ r, o = some r → r.state = .closing → r.amendment = none) (hs : s.LoadTrue) : t.LoadTrue where
  sums k := by
    have moved := hload k (hs.sums k)
    have sum := hr.chargedAt (by rw [htrunk]) k.val
    have before := hs.sums k
    omega
  within k := by
    rw [htrunk]
    exact hlimit k (hs.within k)
  bare := hr.closingBare hbare hs.bare
  unstaged hst := by
    rw [State.stopped, htrunk] at hst
    rw [htrunk]
    exact hs.unstaged hst

/-- The pool stays true when blocks pass between the replaced record and the free set. -/
theorem State.Replaced.poolTrue {s t : State} {h : Handle} {o : Option StreamRecord} (hr : s.Replaced h o t)
    (hfree : (s.store.free ++ s.blocksOf h).Nodup →
      (t.store.free ++ o.elim [] StreamRecord.listedBlocks).Perm (s.store.free ++ s.blocksOf h))
    (hasc : s.store.free.Pairwise (· < ·) → t.store.free.Pairwise (· < ·))
    (hsized : ∀ r, o = some r → r.Sized) (hbare : ∀ r, o = some r → r.state = .closing → r.amendment = none)
    (hs : s.PoolTrue) : t.PoolTrue where
  partition := by
    have old_nodup : (s.store.free ++ s.listedBlocks).Nodup := hs.partition.nodup_iff.2 poolBlocks_nodup
    have own : (s.blocksOf h).Sublist s.listedBlocks := by
      rw [State.listedBlocks_eq, ← List.flatMap_singleton s.blocksOf h]
      exact (List.singleton_sublist.2 (List.mem_finRange h)).flatMap s.blocksOf
    have passed := hfree (old_nodup.sublist (own.append_left _))
    refine List.Perm.trans ?_ hs.partition
    refine (List.perm_append_right_iff (s.blocksOf h ++ o.elim [] StreamRecord.listedBlocks)).1 ?_
    calc t.store.free ++ t.listedBlocks ++ (s.blocksOf h ++ o.elim [] StreamRecord.listedBlocks)
        |>.Perm (t.store.free ++ (t.listedBlocks ++ s.blocksOf h) ++ o.elim [] StreamRecord.listedBlocks) := by
          simp
      _ |>.Perm (t.store.free ++ (s.listedBlocks ++ o.elim [] StreamRecord.listedBlocks) ++
          o.elim [] StreamRecord.listedBlocks) := ((hr.listedBlocks.append_left _).append_right _)
      _ |>.Perm ((t.store.free ++ o.elim [] StreamRecord.listedBlocks) ++ s.listedBlocks ++
          o.elim [] StreamRecord.listedBlocks) := by
          refine List.Perm.append_right _ ?_
          rw [List.append_assoc]
          exact List.perm_append_comm.append_left _
      _ |>.Perm ((s.store.free ++ s.blocksOf h) ++ s.listedBlocks ++ o.elim [] StreamRecord.listedBlocks) :=
          (passed.append_right _).append_right _
      _ |>.Perm (s.store.free ++ s.listedBlocks ++ (s.blocksOf h ++ o.elim [] StreamRecord.listedBlocks)) := by
          rw [List.append_assoc, List.append_assoc, List.append_assoc]
          refine List.Perm.append_left _ ?_
          rw [← List.append_assoc, ← List.append_assoc]
          exact List.perm_append_comm.append_right _
  ascending := hasc hs.ascending
  sized k q hq := by
    obtain ⟨-, e⟩ | ⟨-, e⟩ := hr.cases hq
    · exact hsized q e
    · exact hs.sized k q e
  bare := hr.closingBare hbare hs.bare

end Sys2Proof.Machine
end

section
/-! PROOFS. What a step keeps of the tables. `State.Keeps` collects the invariants of the Value Store, the Stream Table,
the Load Map, the free block set, the service entries and the acyclic queue; it is proved of each shared operation once,
and composed along each row's meaning. -/

namespace Sys2Proof.Machine

/-! ### Keeping -/

/-- Each of these invariants that holds of `s` holds of `t`. -/
structure State.Keeps (s t : State) : Prop where
  mem : s.store.mem.wf = true → t.store.mem.wf = true
  keys : s.KeysDistinct → t.KeysDistinct
  counts : s.CountsTrue → t.CountsTrue
  entries : s.EntriesOnce → t.EntriesOnce
  pool : s.PoolTrue → t.PoolTrue
  load : s.LoadTrue → t.LoadTrue
  queue : s.QueueTrue → t.QueueTrue

@[simp] theorem State.Keeps.refl (s : State) : s.Keeps s := ⟨id, id, id, id, id, id, id⟩

theorem State.Keeps.trans {s t u : State} (h : s.Keeps t) (k : t.Keeps u) : s.Keeps u :=
  ⟨k.mem ∘ h.mem, k.keys ∘ h.keys, k.counts ∘ h.counts, k.entries ∘ h.entries, k.pool ∘ h.pool, k.load ∘ h.load,
    k.queue ∘ h.queue⟩

theorem State.keeps_foldl {α : Type} {f : State → α → State} (h : ∀ (s : State) a, s.Keeps (f s a)) (l : List α) (s : State) :
    s.Keeps (l.foldl f s) := by
  induction l generalizing s with
  | nil => exact .refl s
  | cons a l ih => exact (h s a).trans (ih (f s a))

/-- A step that leaves every record's claims, the free set, the Load Map and the stream counts as they are, and keeps
what the lists, the memory and the configuration have to keep. -/
structure State.Quiet (s t : State) : Prop where
  mem : s.store.mem.wf = true → t.store.mem.wf = true
  free : t.store.free = s.store.free
  claims : ∀ h, t.claimAt h = s.claimAt h
  bare : s.ClosingBare → t.ClosingBare
  load : t.table.load = s.table.load
  streams : ∀ n, (t.node n).streams = (s.node n).streams
  entries : s.EntriesOnce → t.EntriesOnce
  queue : s.QueueTrue → t.QueueTrue
  window : t.trunk.applied.w = s.trunk.applied.w
  limit : s.trunk.admissionLimit ≤ t.trunk.admissionLimit
  unstaged : (s.stopped = true → s.trunk.staged = none) → t.stopped = true → t.trunk.staged = none

theorem State.Quiet.keeps {s t : State} (h : s.Quiet t) : s.Keeps t where
  mem := h.mem
  keys := State.keysDistinct_of_claims h.claims
  counts hs n := by rw [h.streams, hs n, State.liveAt_eq, State.liveAt_eq, State.names_of_claims h.claims]
  entries := h.entries
  pool hs :=
    { partition := by
        rw [h.free, State.listedBlocks_eq, State.blocksOf_of_claims h.claims, ← State.listedBlocks_eq]
        exact hs.partition
      ascending := h.free ▸ hs.ascending
      sized := fun k r hr => by
        obtain ⟨q, hq, e⟩ := State.record_of_claims h.claims hr
        exact (hs.sized k q hq).of_claim e
      bare := h.bare hs.bare }
  load hs :=
    { sums := fun k => by
        rw [h.load, hs.sums, State.chargedAt_eq, State.chargedAt_eq, State.chargeOf_of_claims h.claims h.window]
      within := fun k => by
        rw [h.load]
        exact (hs.within k).trans h.limit
      bare := h.bare hs.bare
      unstaged := h.unstaged hs.unstaged }
  queue := h.queue

/-! ### Steps that touch one part -/

/-- Only parts that no invariant speaks of change. -/
theorem State.quiet_of_same {s t : State} (store : t.store = s.store) (table : t.table = s.table)
    (roster : t.roster = s.roster) (sched : t.sched = s.sched) (acyclic : t.acyclic = s.acyclic)
    (trunk : t.trunk = s.trunk) : s.Quiet t where
  mem := by rw [store]; exact id
  free := by rw [store]
  claims h := by simp only [State.claimAt, State.record, table]
  bare := by simp only [State.ClosingBare, State.record, table]; exact id
  load := by rw [table]
  streams n := by simp only [State.node, roster]
  entries := by rw [State.EntriesOnce, State.EntriesOnce, sched]; exact id
  queue hs := ⟨by rw [acyclic]; exact hs.once, fun id => by simpa only [State.request, acyclic] using hs.holds id⟩
  window := by rw [trunk]
  limit := by rw [trunk]
  unstaged := by simp only [State.stopped, trunk]; exact id

theorem State.quiet_trunk (s : State) (u : CycleUnit) (window : u.applied.w = s.trunk.applied.w)
    (limit : s.trunk.admissionLimit ≤ u.admissionLimit)
    (unstaged : (s.stopped = true → s.trunk.staged = none) → ({ s with trunk := u } : State).stopped = true →
      u.staged = none) : s.Quiet { s with trunk := u } :=
  { State.quiet_of_same (s := s) (t := s) rfl rfl rfl rfl rfl rfl with
    window := window, limit := limit, unstaged := unstaged, queue := fun h => ⟨h.once, h.holds⟩ }

/-- The Cycle Unit moves on with its state and its configurations as they are. -/
theorem State.quiet_updTrunk (s : State) (f : CycleUnit → CycleUnit) (state : (f s.trunk).state = s.trunk.state)
    (applied : (f s.trunk).applied = s.trunk.applied) (staged : (f s.trunk).staged = s.trunk.staged) :
    s.Quiet (s.updTrunk f) :=
  s.quiet_trunk (f s.trunk) (by rw [applied])
    (by rw [CycleUnit.admissionLimit, CycleUnit.admissionLimit, CycleUnit.appliedBudget, CycleUnit.appliedBudget,
      applied, staged])
    (by simp only [State.stopped, state, staged]; exact id)

theorem State.quiet_sched (s : State) (c : CyclicScheduler)
    (entries : s.EntriesOnce → (c.entries.map ServiceEntry.handle).Nodup) : s.Quiet { s with sched := c } :=
  { State.quiet_of_same (s := s) (t := s) rfl rfl rfl rfl rfl rfl with
    entries := entries, queue := fun h => ⟨h.once, h.holds⟩ }

/-- Service entries changed but not in their records. -/
theorem State.quiet_entries (s : State) (due retry : List Handle) (f : ServiceEntry → ServiceEntry)
    (hf : ∀ e, (f e).handle = e.handle) : s.Quiet { s with sched := ⟨due, retry, s.sched.entries.map f⟩ } :=
  s.quiet_sched _ fun hs => by
    rw [List.map_map]
    rwa [State.EntriesOnce, show ServiceEntry.handle = ServiceEntry.handle ∘ f from funext fun e => (hf e).symm] at hs

theorem State.quiet_acyclic (s : State) (q : AcyclicScheduler)
    (queue : s.QueueTrue → ({ s with acyclic := q } : State).QueueTrue) : s.Quiet { s with acyclic := q } :=
  { State.quiet_of_same (s := s) (t := s) rfl rfl rfl rfl rfl rfl with queue := queue }

theorem State.quiet_roster (s : State) (v : Vector RosterEntry 62)
    (streams : ∀ n : Node, v[n.val].streams = (s.node n).streams) : s.Quiet { s with roster := v } :=
  { State.quiet_of_same (s := s) (t := s) rfl rfl rfl rfl rfl rfl with
    streams := streams, queue := fun h => ⟨h.once, h.holds⟩ }

theorem State.quiet_setNode (s : State) (n : Node) (e : RosterEntry) (streams : e.streams = (s.node n).streams) :
    s.Quiet (s.setNode n e) :=
  s.quiet_roster _ fun k => by
    by_cases hk : k = n
    · subst hk
      simpa using streams
    · exact congrArg RosterEntry.streams (s.node_setNode_other n k e hk)

theorem State.quiet_records (s : State) (v : Vector (Option StreamRecord) 64)
    (claims : ∀ h : Handle, v[h.val].map StreamRecord.claim = s.claimAt h)
    (closing : ∀ (h : Handle) r, v[h.val] = some r → r.state = .closing → r.amendment = none ∨
      ∃ q, s.record h = some q ∧ q.state = .closing ∧ q.amendment = r.amendment) :
    s.Quiet { s with table := { s.table with records := v } } :=
  { State.quiet_of_same (s := s) (t := s) rfl rfl rfl rfl rfl rfl with
    claims := claims
    bare := fun hs h r hr hc => by
      obtain h0 | ⟨q, hq, hqc, e⟩ := closing h r hr hc
      · exact h0
      · exact e ▸ hs h q hq hqc
    queue := fun h => ⟨h.once, h.holds⟩ }

theorem State.quiet_setRecord {s : State} {h : Handle} {r q : StreamRecord} (hr : s.record h = some r)
    (claim : q.claim = r.claim) (closing : q.state = .closing → q.amendment = none ∨ r.state = .closing) :
    s.Quiet (s.setRecord h (some q)) := by
  refine s.quiet_records _ (fun k => ?_) fun k a ha hc => ?_
  · by_cases hk : k = h
    · subst hk
      simp [State.claimAt, hr, claim]
    · exact congrArg (Option.map StreamRecord.claim) (s.record_setRecord_other h k (some q) hk)
  · have replaced := s.record_setRecord h k (some q)
    by_cases hk : k = h
    · subst hk
      rw [if_pos rfl] at replaced
      cases replaced.symm.trans ha
      obtain ⟨-, -, -, -, -, ea⟩ := StreamRecord.claim_eq_iff.1 claim
      exact (closing hc).imp_right fun h => ⟨r, hr, h, ea.symm⟩
    · rw [if_neg hk] at replaced
      exact .inr ⟨a, replaced.symm.trans ha, hc, rfl⟩

/-- Every live record changed alike, none in its claims and none to CLOSING. -/
theorem State.quiet_mapRecords (s : State) (f : StreamRecord → StreamRecord) (claim : ∀ r, (f r).claim = r.claim)
    (state : ∀ r, (f r).state = r.state) :
    s.Quiet { s with table := { s.table with records := s.table.records.map fun o => o.map f } } := by
  refine s.quiet_records _ (fun h => ?_) fun h r hr hc => ?_
  · simp only [Vector.getElem_map, Option.map_map, State.claimAt, State.record]
    exact congrArg (Option.map · _) (funext claim)
  · rw [Vector.getElem_map] at hr
    obtain ⟨q, hq, rfl⟩ := Option.map_eq_some_iff.1 hr
    exact .inr ⟨q, hq, (state q).symm.trans hc, (StreamRecord.claim_eq_iff.1 (claim q)).2.2.2.2.2.symm⟩

theorem State.quiet_storeBytes (s : State) (addrs : List Nat) (values : List Byte) :
    s.Quiet (s.storeBytes addrs values) :=
  { State.quiet_of_same (s := s) (t := s) rfl rfl rfl rfl rfl rfl with
    mem := Memory.writeAll_wf s.store.mem addrs values, queue := fun h => ⟨h.once, h.holds⟩ }

theorem State.Quiet.trans {s t u : State} (h : s.Quiet t) (k : t.Quiet u) : s.Quiet u where
  mem := k.mem ∘ h.mem
  free := k.free.trans h.free
  claims l := (k.claims l).trans (h.claims l)
  bare := k.bare ∘ h.bare
  load := k.load.trans h.load
  streams n := (k.streams n).trans (h.streams n)
  entries := k.entries ∘ h.entries
  queue := k.queue ∘ h.queue
  window := k.window.trans h.window
  limit := h.limit.trans k.limit
  unstaged := k.unstaged ∘ h.unstaged

theorem State.Quiet.refl (s : State) : s.Quiet s := State.quiet_of_same rfl rfl rfl rfl rfl rfl

theorem State.quiet_foldl {α : Type} {f : State → α → State} (h : ∀ (s : State) a, s.Quiet (f s a)) (l : List α) (s : State) :
    s.Quiet (l.foldl f s) := by
  induction l generalizing s with
  | nil => exact .refl s
  | cons a l ih => exact (h s a).trans (ih (f s a))

theorem State.quiet_raise (s : State) (p : Port) (src : Source) (r : Reason) : s.Quiet (s.raise p src r) :=
  State.quiet_of_same rfl rfl rfl rfl rfl rfl

theorem State.quiet_raiseBoth (s : State) (r : Reason) : s.Quiet (s.raiseBoth r) :=
  State.quiet_of_same rfl rfl rfl rfl rfl rfl

theorem State.quiet_setEngine (s : State) (e : EngineState) : s.Quiet (s.setEngine e) :=
  State.quiet_of_same rfl rfl rfl rfl rfl rfl

theorem State.quiet_setTx (s : State) (tx : Option (List Byte)) : s.Quiet (s.setTx tx) :=
  State.quiet_of_same rfl rfl rfl rfl rfl rfl

theorem State.quiet_setRxd (s : State) (b : Bool) : s.Quiet (s.setRxd b) :=
  State.quiet_of_same rfl rfl rfl rfl rfl rfl

theorem State.quiet_setClock (s : State) (m : Nat) : s.Quiet (s.setClock m) :=
  s.quiet_updTrunk _ rfl rfl rfl

theorem State.quiet_answerParked (s : State) (w : ParkKind → Bool) (b : ParkKind → List Byte) :
    s.Quiet (s.answerParked w b) :=
  State.quiet_of_same (by simp) (by simp) (by simp) (by simp) (by simp) (by simp)

theorem State.quiet_excuse (s : State) (h : Handle) : s.Quiet (s.excuse h) :=
  s.quiet_entries _ _ _ fun e => by split <;> rfl

theorem State.quiet_updEntry (s : State) (h : Handle) (f : ServiceEntry → ServiceEntry)
    (hf : ∀ e, (f e).handle = e.handle) : s.Quiet (s.updEntry h f) :=
  s.quiet_entries _ _ _ fun e => by split <;> simp [hf]

theorem State.quiet_setDisposition (s : State) (h : Handle) (d : Disposition) : s.Quiet (s.setDisposition h d) :=
  s.quiet_updEntry h _ fun _ => rfl

/-! ### The acyclic queue (R132) -/

/-- The request at an id is QUEUED or ACTIVE. -/
def State.Waits (s : State) (id : ReqId) : Prop := ∃ q, s.request id = some q ∧ (q.state = .queued ∨ q.state = .active)

theorem State.waits_setRequest_same {s : State} {id : ReqId} {o : Option Request} :
    (s.setRequest id o).Waits id ↔ ∃ q, o = some q ∧ (q.state = .queued ∨ q.state = .active) := by
  simp [State.Waits]

theorem State.waits_setRequest_other {s : State} {id k : ReqId} {o : Option Request} (hk : k ≠ id) :
    (s.setRequest id o).Waits k ↔ s.Waits k := by
  rw [State.Waits, State.request_setRequest_other s id k o hk, State.Waits]

/-- A request that waits and goes on waiting. -/
theorem State.quiet_setRequest_of_waits {s : State} {id : ReqId} {q : Request} (hs : s.Waits id)
    (hq : q.state = .queued ∨ q.state = .active) : s.Quiet (s.setRequest id (some q)) :=
  s.quiet_acyclic _ fun hqt => ⟨hqt.once, fun k => (hqt.holds k).trans <| by
    by_cases hk : k = id
    · subst hk
      exact ⟨fun _ => State.waits_setRequest_same.2 ⟨q, rfl, hq⟩, fun _ => hs⟩
    · exact (State.waits_setRequest_other hk).symm⟩

/-- A request off the queue, and none or one that does not wait in its place. -/
theorem State.quiet_leaveQueue_setRequest (s : State) (id : ReqId) (o : Option Request)
    (ho : ∀ q, o = some q → q.state ≠ .queued ∧ q.state ≠ .active) :
    s.Quiet ((s.leaveQueue id).setRequest id o) :=
  s.quiet_acyclic _ fun hqt => ⟨hqt.once.filter _, fun k => by
    refine (List.mem_filter (p := (· != id))).trans ?_
    by_cases hk : k = id
    · subst hk
      refine ⟨fun h => absurd h.2 (by simp), fun h => ?_⟩
      obtain ⟨q, hq, hw⟩ := State.waits_setRequest_same.1 h
      exact (hw.elim (ho q hq).1 (ho q hq).2).elim
    · refine (and_iff_left (by simpa using hk)).trans ((hqt.holds k).trans ?_)
      exact (State.waits_setRequest_other (s := s.leaveQueue id) hk).symm⟩

theorem State.quiet_freeRequest (s : State) (id : ReqId) : s.Quiet (s.freeRequest id) :=
  s.quiet_leaveQueue_setRequest id none nofun

theorem State.quiet_failRequest (s : State) (id : ReqId) (q : Request) (why : FailReason) :
    s.Quiet (s.failRequest id q why) :=
  (s.quiet_leaveQueue_setRequest id _ fun q' e => by cases e; exact ⟨nofun, nofun⟩).trans (State.quiet_raise _ _ _ _)

theorem State.quiet_cancel (s : State) (id : ReqId) (q : Request) : s.Quiet (s.cancel id q) := by
  obtain ⟨-, e⟩ | ⟨-, -, e⟩ | ⟨-, -, e⟩ := s.cancel_cases id q <;> rw [e]
  · exact .refl s
  · exact s.quiet_leaveQueue_setRequest id _ fun q' e => by cases e; exact ⟨nofun, nofun⟩
  · exact s.quiet_freeRequest id

/-- A request moved to the tail of the queue. -/
theorem State.quiet_toTail {s : State} {id : ReqId} (d : List ReqId) (hs : s.Waits id) :
    s.Quiet { s with acyclic := { s.acyclic with queue := s.acyclic.queue.filter (· != id) ++ [id], deferred := d } } :=
  s.quiet_acyclic _ fun hqt => by
    refine ⟨?_, fun k => ?_⟩
    · refine List.nodup_append.2 ⟨hqt.once.filter _, List.nodup_singleton id, fun a ha b hb => ?_⟩
      rw [List.mem_singleton.1 hb]
      simpa using (List.mem_filter.1 ha).2
    · refine Iff.trans ?_ (hqt.holds k)
      simp only [List.mem_append, List.mem_filter, List.mem_singleton, bne_iff_ne, ne_eq]
      by_cases hk : k = id
      · subst hk
        exact ⟨fun _ => (hqt.holds k).2 hs, fun _ => .inr rfl⟩
      · simp [hk]

/-- A FREE request taken and put at the tail of the queue. -/
theorem State.quiet_sendRequest {s : State} {id : ReqId} (p : Port) (n : Node) (g : SendArgs)
    (hf : s.request id = none) : s.Quiet (s.sendRequest p id n g) := by
  refine (s.quiet_storeBytes (areaAddrs id 0 g.length) g.data).trans ?_
  refine (s.storeBytes (areaAddrs id 0 g.length) g.data).quiet_acyclic _ fun hqt => ?_
  have absent : id ∉ s.acyclic.queue := fun hm => by
    obtain ⟨q, hq, -⟩ := (hqt.holds id).1 hm
    exact absurd (hf.symm.trans hq) nofun
  refine ⟨List.nodup_append.2 ⟨hqt.once, List.nodup_singleton id, fun a ha b hb => ?_⟩, fun k => ?_⟩
  · rw [List.mem_singleton.1 hb]
    rintro rfl
    exact absent ha
  · refine (List.mem_append (s := s.acyclic.queue)).trans ?_
    by_cases hk : k = id
    · subst hk
      exact ⟨fun _ => State.waits_setRequest_same.2 ⟨_, rfl, .inl rfl⟩, fun _ => .inr (List.mem_singleton.2 rfl)⟩
    · refine (or_iff_left fun h => hk (List.mem_singleton.1 h)).trans ((hqt.holds k).trans ?_)
      exact (State.waits_setRequest_other (s := s) (o := some (newRequest p n g)) hk).symm

/-! ### Reports to the roster -/

theorem State.quiet_suspendRecord (n : Node) (s : State) (h : Handle) : s.Quiet (State.suspendRecord n s h) := by
  unfold State.suspendRecord
  split
  · exact .refl s
  · next r hr =>
    split
    · exact ((State.quiet_setRecord hr (by rfl) (by simp)).trans (State.quiet_excuse _ h)).trans (State.quiet_raise _ _ _ _)
    · exact .refl s

theorem State.quiet_resumeRecord (n : Node) (s : State) (h : Handle) : s.Quiet (State.resumeRecord n s h) := by
  unfold State.resumeRecord
  split
  · exact .refl s
  · next r hr =>
    split
    · exact (State.quiet_setRecord hr (by rfl) (by simp)).trans (State.quiet_raise _ _ _ _)
    · exact .refl s

theorem State.quiet_loseRequest (n : Node) (s : State) (id : ReqId) : s.Quiet (State.loseRequest n s id) := by
  unfold State.loseRequest
  split
  · exact .refl s
  · split
    · exact s.quiet_failRequest _ _ _
    · exact .refl s

theorem State.quiet_nodeLost (s : State) (n : Node) : s.Quiet (s.nodeLost n) :=
  (State.quiet_foldl (State.quiet_suspendRecord n) handles s).trans
    (State.quiet_foldl (State.quiet_loseRequest n) reqIds _)

theorem State.quiet_reportAnswered (s : State) (n : Node) (i : Option Identity) : s.Quiet (s.reportAnswered n i) := by
  unfold State.reportAnswered
  dsimp only
  have entered := s.quiet_setNode n
    ⟨.present, i.or (s.node n).identity, 0, (s.node n).streams⟩ rfl
  split
  · refine State.Quiet.trans ?_ (State.quiet_foldl (State.quiet_resumeRecord n) handles _)
    split
    · exact entered
    · exact entered.trans (State.quiet_raiseBoth _ _)
  · split
    · exact entered
    · exact entered.trans (State.quiet_raiseBoth _ _)

theorem State.quiet_reportUnanswered (s : State) (n : Node) : s.Quiet (s.reportUnanswered n) := by
  unfold State.reportUnanswered
  dsimp only
  split
  · exact ((s.quiet_setNode n _ (by rfl)).trans (State.quiet_raiseBoth _ _)).trans (State.quiet_nodeLost _ n)
  · exact s.quiet_setNode n _ (by rfl)

theorem State.quiet_reportUnansweredProbe (s : State) (n : Node) : s.Quiet (s.reportUnansweredProbe n) := by
  unfold State.reportUnansweredProbe
  dsimp only
  split
  · exact (s.quiet_setNode n _ (by rfl)).trans (State.quiet_raiseBoth _ _)
  · exact .refl s

theorem State.quiet_report (s : State) (n : Node) (o : ExchangeOutcome) : s.Quiet (s.report n o) := by
  unfold State.report
  split
  · exact s.quiet_reportAnswered n none
  · exact s.quiet_reportUnanswered n

/-! ### The phases of a cycle -/

theorem State.quiet_countMiss (s : State) (h : Handle) : s.Quiet (s.countMiss h) := by
  unfold State.countMiss
  split
  · exact .refl s
  · next r hr =>
    split
    · next hact =>
      have counted := State.quiet_setRecord (q := { r with counters := { r.counters with
        missed := satInc r.counters.missed, consecutive := satInc r.counters.consecutive } }) hr rfl
        fun hc => absurd (hact.symm.trans hc) (by decide)
      dsimp only
      split
      · exact counted.trans (State.quiet_raise _ _ _ _)
      · exact counted
    · exact .refl s

theorem State.quiet_settle (s : State) : s.Quiet s.settle :=
  State.quiet_foldl (fun t e => by
    split
    · exact t.quiet_countMiss _
    · exact .refl t) _ s

theorem State.quiet_deferred (s : State) (d : List ReqId) (probes : List Node) (pending : Bool) (run : Nat) :
    s.Quiet { s with acyclic := ⟨s.acyclic.requests, s.acyclic.queue, d, probes, pending, run⟩ } :=
  s.quiet_acyclic _ fun h => ⟨h.once, h.holds⟩

theorem State.quiet_beginAcyclic (s : State) : s.Quiet s.beginAcyclic :=
  (s.quiet_updTrunk (fun u => { u with phase := .probes }) rfl rfl rfl).trans (State.quiet_deferred _ _ _ _ _)

theorem State.quiet_advance (s : State) : s.Quiet s.advance := by
  have cyclic : s.Quiet s.endCyclic := by
    unfold State.endCyclic
    split
    · exact s.quiet_updTrunk _ rfl rfl rfl
    · exact .refl s
  have retry : ∀ t : State, t.Quiet t.endRetry := fun t => by
    unfold State.endRetry
    split
    · exact t.quiet_settle.trans (State.quiet_beginAcyclic _)
    · exact .refl t
  have probes : ∀ t : State, t.Quiet t.endProbes := fun t => by
    unfold State.endProbes
    split
    · exact t.quiet_updTrunk _ rfl rfl rfl
    · exact .refl t
  have pieces : ∀ t : State, t.Quiet t.endPieces := fun t => by
    unfold State.endPieces
    split
    · exact t.quiet_updTrunk _ rfl rfl rfl
    · exact .refl t
  unfold State.advance
  split
  · exact .refl s
  · exact ((cyclic.trans (retry _)).trans (probes _)).trans (pieces _)

theorem CycleUnit.admissionLimit_le_staged {u : CycleUnit} {g : Staged} (h : u.staged = some g) :
    u.admissionLimit ≤ budget g.c g.a := by
  simp [CycleUnit.admissionLimit, h]

/-- The staged configuration applied, with the state replaced in the same step or not. -/
theorem State.quiet_applyStaged_after (s : State) (f : CycleUnit → CycleUnit)
    (applied : (f s.trunk).applied = s.trunk.applied) (staged : (f s.trunk).staged = s.trunk.staged) :
    s.Quiet ((s.updTrunk f).applyStaged) := by
  unfold State.applyStaged
  rw [State.trunk_updTrunk, staged]
  split
  · next hn =>
    exact s.quiet_trunk (f s.trunk) (by rw [applied])
      (by rw [CycleUnit.admissionLimit, CycleUnit.admissionLimit, CycleUnit.appliedBudget, CycleUnit.appliedBudget,
        applied, staged])
      fun _ _ => staged.trans hn
  · next g hg =>
    refine State.Quiet.trans ?_ (State.quiet_raiseBoth _ _)
    exact s.quiet_trunk { f s.trunk with applied := { (f s.trunk).applied with c := g.c, a := g.a }, staged := none }
      (by simp [applied]) (by simpa [CycleUnit.admissionLimit, CycleUnit.appliedBudget] using
        CycleUnit.admissionLimit_le_staged hg) fun _ _ => rfl

theorem State.quiet_applyStaged (s : State) : s.Quiet s.applyStaged := s.quiet_applyStaged_after id rfl rfl

theorem State.quiet_enterHalted (s : State) : s.Quiet s.enterHalted :=
  (s.quiet_applyStaged_after _ rfl rfl).trans (State.quiet_raiseBoth _ _)

/-! ### Records freed, amendments dropped and applied -/

@[simp] theorem State.record_discharge (s : State) (q : Params) (h : Handle) :
    (s.discharge q).record h = s.record h := by
  simp [State.record, State.discharge]

@[simp] theorem State.record_releaseBlocks (s : State) (blocks : List Block) (h : Handle) :
    (s.releaseBlocks blocks).record h = s.record h := by
  simp [State.record]

theorem State.replaced_freeRecord (s : State) (h : Handle) (r : StreamRecord) :
    s.Replaced h none (s.freeRecord h r) :=
  ⟨by rw [State.record_freeRecord, if_pos rfl], fun k hk => by rw [State.record_freeRecord, if_neg hk]⟩

theorem State.free_freeRecord (s : State) (h : Handle) (r : StreamRecord) :
    (s.freeRecord h r).store = (s.releaseBlocks r.blocks).store := by
  simp [State.freeRecord, State.releaseBlocks]

@[simp] theorem getElem_removeCharge (load : Vector Nat 128) (q : Params) (w : Nat) (k : Fin 128) :
    (removeCharge load q.period q.phase (slotCost w q.len))[k.val] = load[k.val] - q.chargeAt w k.val := by
  simp [removeCharge, Params.chargeAt]

@[simp] theorem getElem_addCharge (load : Vector Nat 128) (q : Params) (w : Nat) (k : Fin 128) :
    (addCharge load q.period q.phase (slotCost w q.len))[k.val] = load[k.val] + q.chargeAt w k.val := by
  simp [addCharge, Params.chargeAt]

theorem State.table_freeRecord (s : State) (h : Handle) (r : StreamRecord) :
    (s.freeRecord h r).table = ⟨s.table.records.set h.val none h.isLt,
      removeCharge s.table.load r.params.period r.params.phase (slotCost s.trunk.applied.w r.params.len)⟩ := by
  simp [State.freeRecord, State.discharge]

theorem State.load_freeRecord (s : State) (h : Handle) (r : StreamRecord) (k : Fin 128) :
    (s.freeRecord h r).table.load[k.val] = s.table.load[k.val] - r.params.chargeAt s.trunk.applied.w k.val := by
  rw [State.table_freeRecord, getElem_removeCharge]

theorem State.node_freeRecord (s : State) (h : Handle) (r : StreamRecord) (n : Node) :
    (s.freeRecord h r).node n = if n = r.node then { s.node n with streams := (s.node n).streams - 1 } else s.node n := by
  have entry : (s.freeRecord h r).node n =
      (s.setNode r.node { s.node r.node with streams := (s.node r.node).streams - 1 }).node n := by
    simp [State.freeRecord, State.countStreamOut, State.node]
  rw [entry]
  split
  · next e =>
    subst e
    exact State.node_setNode_same s _ _
  · next e => exact State.node_setNode_other s r.node n _ e

theorem State.sched_freeRecord (s : State) (h : Handle) (r : StreamRecord) :
    (s.freeRecord h r).sched = (s.excuse h).sched := by
  simp [State.freeRecord, State.excuse]

/-- One record's charge is part of the sum. -/
theorem State.chargeOf_le (s : State) (k : Nat) (h : Handle) : s.chargeOf k h ≤ s.chargedAt k := by
  rw [State.chargedAt_eq]
  exact List.single_le_sum (fun _ _ => Nat.zero_le _) _ (List.mem_map_of_mem (List.mem_finRange h))

theorem State.chargeOf_of_record {s : State} {h : Handle} {r : StreamRecord} (hr : s.record h = some r) (k : Nat) :
    s.chargeOf k h = r.params.chargeAt s.trunk.applied.w k +
      r.amendment.elim 0 fun am => am.params.chargeAt s.trunk.applied.w k := by
  rw [State.chargeOf, hr, Option.elim_some, StreamRecord.chargedAt_eq]

theorem State.blocksOf_of_record {s : State} {h : Handle} {r : StreamRecord} (hr : s.record h = some r) :
    s.blocksOf h = r.blocks ++ r.amendment.elim [] fun am => am.blocks.getD [] := by
  rw [State.blocksOf, hr, Option.elim_some, StreamRecord.listedBlocks_eq]

theorem State.countsTrue_freeRecord {s : State} {h : Handle} {r : StreamRecord} (hr : s.record h = some r)
    (hs : s.CountsTrue) : (s.freeRecord h r).CountsTrue := by
  intro n
  have live := (s.replaced_freeRecord h r).liveAt n
  have before := hs n
  simp only [State.names, hr, Option.elim_some, Option.elim_none, Bool.toNat_false, Nat.add_zero] at live
  rw [State.node_freeRecord]
  by_cases e : n = r.node
  · subst e
    rw [if_pos rfl]
    simp only [beq_self_eq_true, Bool.toNat_true] at live ⊢
    omega
  · rw [if_neg e]
    rw [show (r.node == n) = false from beq_false_of_ne (Ne.symm e), Bool.toNat_false] at live
    omega

theorem State.poolTrue_freeRecord {s : State} {h : Handle} {r : StreamRecord} (hr : s.record h = some r)
    (hbare : r.amendment = none) (hs : s.PoolTrue) : (s.freeRecord h r).PoolTrue := by
  refine (s.replaced_freeRecord h r).poolTrue (fun hn => ?_) (fun asc => ?_) (fun q e => by cases e)
    (fun q e => by cases e) hs
  · rw [State.blocksOf_of_record hr, hbare, Option.elim_none, List.append_nil] at hn ⊢
    rw [Option.elim_none, List.append_nil, State.free_freeRecord]
    exact foldl_insertBlock_perm hn
  · rw [State.free_freeRecord]
    exact foldl_insertBlock_ascending asc

theorem State.loadTrue_freeRecord {s : State} {h : Handle} {r : StreamRecord} (hr : s.record h = some r)
    (hbare : r.amendment = none) (hs : s.LoadTrue) : (s.freeRecord h r).LoadTrue := by
  refine (s.replaced_freeRecord h r).loadTrue (by simp) (fun k sum => ?_) (fun k hk => ?_)
    (fun q e => by cases e) hs
  · have part := s.chargeOf_le k.val h
    rw [State.chargeOf_of_record hr, hbare, Option.elim_none] at part ⊢
    rw [State.load_freeRecord, Option.elim_none]
    omega
  · rw [State.load_freeRecord]
    omega

/-- The acyclic queue stays true when the requests and the queue stay. -/
theorem State.QueueTrue.of_acyclic {s t : State} (h : t.acyclic = s.acyclic) (hs : s.QueueTrue) : t.QueueTrue :=
  ⟨by rw [h]; exact hs.once, fun id => by simpa only [State.request, h] using hs.holds id⟩

theorem State.EntriesOnce.of_sched {s t : State} (h : t.sched = s.sched) (hs : s.EntriesOnce) : t.EntriesOnce := by
  rwa [State.EntriesOnce, h]

/-- A live record without an amendment freed (R13). -/
theorem State.keeps_freeRecord {s : State} {h : Handle} {r : StreamRecord} (hr : s.record h = some r)
    (hbare : s.ClosingBare → r.amendment = none) : s.Keeps (s.freeRecord h r) where
  mem := by rw [State.free_freeRecord]; exact id
  keys := (s.replaced_freeRecord h r).keysDistinct fun q e => by cases e
  counts := State.countsTrue_freeRecord hr
  entries hs := ((s.quiet_excuse h).entries hs).of_sched (s.sched_freeRecord h r)
  pool hs := State.poolTrue_freeRecord hr (hbare hs.bare) hs
  load hs := State.loadTrue_freeRecord hr (hbare hs.bare) hs
  queue := .of_acyclic (by simp)

theorem State.dropAmendment_none {s : State} {h : Handle} {r : StreamRecord} (ha : r.amendment = none) :
    s.dropAmendment h r = s := by
  simp only [State.dropAmendment, ha]

theorem State.dropAmendment_some {s : State} {h : Handle} {r : StreamRecord} {am : Amendment}
    (ha : r.amendment = some am) : s.dropAmendment h r =
      ((s.discharge am.params).releaseBlocks (am.blocks.getD [])).setRecord h (some { r with amendment := none }) := by
  simp only [State.dropAmendment, ha]

theorem State.record_dropAmendment {s : State} {h : Handle} {r : StreamRecord} (hr : s.record h = some r) :
    (s.dropAmendment h r).record h = some { r with amendment := none } := by
  cases ha : r.amendment with
  | none => rw [State.dropAmendment_none ha, hr, ← ha]
  | some am => rw [State.dropAmendment_some ha, State.record_setRecord_same]

theorem State.record_dropAmendment_other {s : State} {h k : Handle} {r : StreamRecord} (hk : k ≠ h) :
    (s.dropAmendment h r).record k = s.record k := by
  cases ha : r.amendment with
  | none => rw [State.dropAmendment_none ha]
  | some am => simp [State.dropAmendment_some ha, State.record_setRecord_other _ _ _ _ hk]

theorem State.replaced_dropAmendment {s : State} {h : Handle} {r : StreamRecord} (hr : s.record h = some r) :
    s.Replaced h (some { r with amendment := none }) (s.dropAmendment h r) :=
  ⟨State.record_dropAmendment hr, fun _ => State.record_dropAmendment_other⟩

theorem State.free_dropAmendment (s : State) (h : Handle) (r : StreamRecord) :
    (s.dropAmendment h r).store = (s.releaseBlocks (r.amendment.elim [] fun am => am.blocks.getD [])).store := by
  cases ha : r.amendment with
  | none => rw [State.dropAmendment_none ha, Option.elim_none, State.releaseBlocks_nil]
  | some am => rw [State.dropAmendment_some ha]; simp [State.releaseBlocks]

theorem State.load_dropAmendment (s : State) (h : Handle) (r : StreamRecord) (k : Fin 128) :
    (s.dropAmendment h r).table.load[k.val] =
      s.table.load[k.val] - r.amendment.elim 0 fun am => am.params.chargeAt s.trunk.applied.w k.val := by
  cases ha : r.amendment with
  | none => rw [State.dropAmendment_none ha]; rfl
  | some am =>
    rw [State.dropAmendment_some ha]
    simp [State.discharge]

/-- A live record's pending amendment released (R20, R34). -/
theorem State.keeps_dropAmendment {s : State} {h : Handle} {r : StreamRecord} (hr : s.record h = some r) :
    s.Keeps (s.dropAmendment h r) where
  mem := by rw [State.free_dropAmendment]; exact id
  keys := (State.replaced_dropAmendment hr).keysDistinct fun q e => by
    cases e
    exact ⟨r, hr, rfl, rfl, rfl⟩
  counts hs n := by
    have live := (State.replaced_dropAmendment hr).liveAt n
    simp only [State.names, hr, Option.elim_some, State.node, State.frame_dropAmendment] at live ⊢
    have before := hs n
    simp only [State.node] at before
    omega
  entries := .of_sched (by simp)
  pool hs := (State.replaced_dropAmendment hr).poolTrue
    (fun hn => by
      rw [State.blocksOf_of_record hr] at hn ⊢
      rw [State.free_dropAmendment, Option.elim_some, StreamRecord.listedBlocks_eq]
      dsimp only
      rw [Option.elim_none, List.append_nil]
      have released := (hn.sublist ((List.sublist_append_right r.blocks _).append_left s.store.free))
      exact ((foldl_insertBlock_perm released).append_right r.blocks).trans (by
        rw [List.append_assoc]
        exact List.perm_append_comm.append_left _))
    (fun ha => by
      rw [State.free_dropAmendment]
      exact foldl_insertBlock_ascending ha)
    (fun q e => by
      cases e
      exact ⟨(hs.sized h r hr).1, nofun⟩)
    (fun q e _ => by cases e; rfl) hs
  load hs := (State.replaced_dropAmendment hr).loadTrue (by simp)
    (fun k sum => by
      have part := s.chargeOf_le k.val h
      rw [State.chargeOf_of_record hr] at part ⊢
      rw [State.load_dropAmendment, Option.elim_some, StreamRecord.chargedAt_eq]
      dsimp only
      rw [Option.elim_none]
      omega)
    (fun k => by
      rw [State.load_dropAmendment]
      omega)
    (fun q e _ => by cases e; rfl) hs
  queue := .of_acyclic (by simp)

theorem State.keeps_retire {s : State} {h : Handle} {r : StreamRecord} (hr : s.record h = some r) :
    s.Keeps (s.retire h r) := by
  have dropped := State.record_dropAmendment hr
  obtain ⟨-, e⟩ | ⟨-, -, e⟩ | ⟨-, -, e⟩ := s.retire_cases h r <;> rw [e]
  · exact .refl s
  · exact (State.keeps_dropAmendment hr).trans
      ((State.quiet_setRecord dropped (by rfl) fun _ => .inl (by rfl)).trans (State.quiet_excuse _ h)).keeps
  · exact (State.keeps_dropAmendment hr).trans (State.keeps_freeRecord dropped fun _ => rfl)

theorem State.keeps_endClosing {s : State} {h : Handle} {r : StreamRecord} (hr : s.record h = some r)
    (hc : r.state = .closing) : s.Keeps (s.endClosing h r) :=
  (State.keeps_freeRecord hr fun hb => hb h r hr hc).trans (State.quiet_answerParked _ _ _).keeps

theorem State.quiet_endCancelling (s : State) (id : ReqId) (q : Request) : s.Quiet (s.endCancelling id q) :=
  (s.quiet_freeRequest id).trans (State.quiet_answerParked _ _ _)

theorem State.amended_params (r : StreamRecord) (am : Amendment) : (r.amended am).params = am.params := by
  unfold StreamRecord.amended
  dsimp only
  split <;> rfl

theorem State.amended_amendment (r : StreamRecord) (am : Amendment) : (r.amended am).amendment = none := by
  unfold StreamRecord.amended
  dsimp only
  split <;> rfl

theorem State.amended_key (r : StreamRecord) (am : Amendment) : (r.amended am).node = r.node ∧
    (r.amended am).channel = r.channel ∧ (r.amended am).direction = r.direction := by
  unfold StreamRecord.amended
  dsimp only
  split <;> exact ⟨rfl, rfl, rfl⟩

theorem State.amended_blocks (r : StreamRecord) (am : Amendment) : (r.amended am).blocks = am.blocks.getD r.blocks := by
  unfold StreamRecord.amended
  dsimp only
  split <;> simp [*]

theorem State.replaced_applyAmendment (s : State) (h : Handle) (r : StreamRecord) (am : Amendment) :
    s.Replaced h (some (r.amended am)) (s.applyAmendment h r am) := by
  have before : ∀ u : State, u.Replaced h (some (r.amended am))
      ((u.setRecord h (some (r.amended am))).raise r.owner (.stream h) .amendApplied) := fun u =>
    ⟨u.record_setRecord_same h _, fun k hk => u.record_setRecord_other h k _ hk⟩
  unfold State.applyAmendment
  cases am.blocks with
  | none => exact ⟨(before _).1, fun k hk => ((before _).2 k hk).trans (by simp)⟩
  | some blocks => exact ⟨(before _).1, fun k hk => ((before _).2 k hk).trans (by simp)⟩

theorem State.store_applyAmendment (s : State) (h : Handle) (r : StreamRecord) (am : Amendment) :
    (s.applyAmendment h r am).store = (s.releaseBlocks (am.blocks.elim [] fun _ => r.blocks)).store := by
  unfold State.applyAmendment
  cases am.blocks <;> simp [State.releaseBlocks]

theorem State.load_applyAmendment (s : State) (h : Handle) (r : StreamRecord) (am : Amendment) (k : Fin 128) :
    (s.applyAmendment h r am).table.load[k.val] =
      s.table.load[k.val] - r.params.chargeAt s.trunk.applied.w k.val := by
  unfold State.applyAmendment
  cases am.blocks <;> simp [State.discharge]

/-- A live record's pending amendment applied (R21). -/
theorem State.keeps_applyAmendment {s : State} {h : Handle} {r : StreamRecord} {am : Amendment}
    (hr : s.record h = some r) (ha : r.amendment = some am) : s.Keeps (s.applyAmendment h r am) where
  mem := by rw [State.store_applyAmendment]; exact id
  keys := (s.replaced_applyAmendment h r am).keysDistinct fun q e => by
    cases e
    obtain ⟨kn, kc, kd⟩ := State.amended_key r am
    exact ⟨r, hr, kn.symm, kc.symm, kd.symm⟩
  counts hs n := by
    have live := (s.replaced_applyAmendment h r am).liveAt n
    simp only [State.names, hr, Option.elim_some, State.node, State.frame_applyAmendment,
      (State.amended_key r am).1] at live ⊢
    have before := hs n
    simp only [State.node] at before
    omega
  entries := .of_sched (by simp)
  pool hs := by
    obtain ⟨own_sized, am_sized⟩ := hs.sized h r hr
    have am_sized := am_sized am ha
    refine (s.replaced_applyAmendment h r am).poolTrue (fun hn => ?_) (fun asc => ?_) (fun q e => ?_)
      (fun q e _ => by cases e; exact State.amended_amendment r am) hs
    · rw [State.blocksOf_of_record hr, ha] at hn ⊢
      rw [State.store_applyAmendment, Option.elim_some, StreamRecord.listedBlocks_eq, State.amended_amendment,
        State.amended_blocks, Option.elim_none, List.append_nil]
      cases hb : am.blocks with
      | none => simp [hb]
      | some blocks =>
        simp only [hb, Option.elim_some, Option.getD_some] at hn ⊢
        have released := hn.sublist ((List.sublist_append_left r.blocks blocks).append_left s.store.free)
        exact ((foldl_insertBlock_perm released).append_right blocks).trans (by rw [List.append_assoc])
    · rw [State.store_applyAmendment]
      exact foldl_insertBlock_ascending asc
    · cases e
      refine ⟨?_, by simp [State.amended_amendment]⟩
      rw [State.amended_blocks, State.amended_params]
      cases hb : am.blocks with
      | none =>
        simp only [hb] at am_sized
        rw [Option.getD_none, own_sized, am_sized]
      | some blocks => simpa [hb] using am_sized
  load hs := (s.replaced_applyAmendment h r am).loadTrue (by simp)
    (fun k sum => by
      have part := s.chargeOf_le k.val h
      rw [State.chargeOf_of_record hr, ha] at part ⊢
      simp only [State.load_applyAmendment, Option.elim_some, StreamRecord.chargedAt_eq, State.amended_amendment,
        State.amended_params, Option.elim_none] at part ⊢
      omega)
    (fun k => by
      rw [State.load_applyAmendment]
      omega)
    (fun q e _ => by cases e; exact State.amended_amendment r am) hs
  queue := .of_acyclic (by simp)

end Sys2Proof.Machine
end

section
/-! PROOFS. What the commands that take shared resources keep: a stream opened, an amendment given, the configuration
changed (R2, R19, R29, R36 to R38). Each takes exactly what its checks have found free. -/

namespace Sys2Proof.Machine

/-! ### The admission test (R29) -/

/-- An admissible charge leaves every entry within the limit. -/
theorem add_chargeAt_le_of_admissible {load : Vector Nat 128} {q : Params} {w limit : Nat}
    (ha : admissible load q.period q.phase (slotCost w q.len) limit = true) (k : Fin 128)
    (hk : load[k.val] ≤ limit) : load[k.val] + q.chargeAt w k.val ≤ limit := by
  have := (List.all_eq_true.1 ha) k (List.mem_finRange k)
  unfold Params.chargeAt
  split
  · next hd => simpa [hd] using this
  · simpa using hk

/-! ### OPEN_STREAM -/

theorem State.record_of_chooseHandle {s : State} {h : Handle} (hc : s.chooseHandle = some h) : s.record h = none := by
  have free : h ∈ s.freeHandles := by
    unfold State.chooseHandle at hc
    split at hc
    · next k hk =>
      cases hc
      exact List.mem_of_find?_eq_some hk
    · exact List.mem_of_head? hc
  simpa using (List.mem_filter.1 free).2

/-- The record that an admitted OPEN_STREAM creates. -/
def State.openedRecord (s : State) (p : Port) (n : Node) (g : OpenArgs) (phase : Nat) : StreamRecord :=
  newRecord p n g.channel g.direction (g.params phase) (s.beginState n) (s.store.free.take (blocksNeeded g.len))

theorem State.openRecord_eq (s : State) (p : Port) (h : Handle) (n : Node) (g : OpenArgs) (phase : Nat) :
    s.openRecord p h n g phase =
      { s with
        attn := if s.cleanHandle h then s.attn else (s.clearHandleAttn h).attn
        table := ⟨s.table.records.set h.val (some (s.openedRecord p n g phase)) h.isLt,
          addCharge s.table.load g.period phase (slotCost s.trunk.applied.w g.len)⟩
        store := ⟨s.store.mem, s.store.free.drop (blocksNeeded g.len)⟩
        roster := s.roster.set n.val { s.node n with streams := (s.node n).streams + 1 } n.isLt } := by
  unfold State.openRecord
  dsimp only
  split <;> rfl

theorem State.replaced_openRecord (s : State) (p : Port) (h : Handle) (n : Node) (g : OpenArgs) (phase : Nat) :
    s.Replaced h (some (s.openedRecord p n g phase)) (s.openRecord p h n g phase) := by
  have record : ∀ k, (s.openRecord p h n g phase).record k =
      (s.setRecord h (some (s.openedRecord p n g phase))).record k := fun k => by
    rw [State.openRecord_eq, State.record, State.record, State.table_setRecord]
  exact ⟨(record h).trans (s.record_setRecord_same h _), fun k hk => (record k).trans (s.record_setRecord_other h k _ hk)⟩

theorem State.node_openRecord (s : State) (p : Port) (h : Handle) (n : Node) (g : OpenArgs) (phase : Nat) (m : Node) :
    (s.openRecord p h n g phase).node m =
      if m = n then { s.node m with streams := (s.node m).streams + 1 } else s.node m := by
  have entry : (s.openRecord p h n g phase).node m =
      (s.setNode n { s.node n with streams := (s.node n).streams + 1 }).node m := by
    rw [State.openRecord_eq]
    rfl
  rw [entry]
  split
  · next e =>
    subst e
    exact State.node_setNode_same s _ _
  · next e => exact State.node_setNode_other s n m _ e

theorem State.free_openRecord (s : State) (p : Port) (h : Handle) (n : Node) (g : OpenArgs) (phase : Nat) :
    (s.openRecord p h n g phase).store = ⟨s.store.mem, s.store.free.drop (blocksNeeded g.len)⟩ := by
  rw [State.openRecord_eq]

theorem State.load_openRecord (s : State) (p : Port) (h : Handle) (n : Node) (g : OpenArgs) (phase : Nat)
    (k : Fin 128) : (s.openRecord p h n g phase).table.load[k.val] =
      s.table.load[k.val] + (g.params phase).chargeAt s.trunk.applied.w k.val := by
  rw [State.openRecord_eq]
  exact getElem_addCharge s.table.load (g.params phase) s.trunk.applied.w k

section Open

variable {s : State} {h : Handle} {n : Node} {g : OpenArgs} (p : Port) (phase : Nat)

theorem State.countsTrue_openRecord (hh : s.record h = none) (hs : s.CountsTrue) :
    (s.openRecord p h n g phase).CountsTrue := by
  intro m
  have live := (s.replaced_openRecord p h n g phase).liveAt m
  have before := hs m
  simp only [State.names, hh, Option.elim_some, Option.elim_none, Bool.toNat_false, Nat.add_zero] at live
  rw [State.node_openRecord]
  by_cases e : m = n
  · subst e
    rw [if_pos rfl]
    rw [show ((s.openedRecord p m g phase).node == m) = true from beq_self_eq_true _, Bool.toNat_true] at live
    rw [live, ← before]
  · rw [if_neg e]
    rw [show ((s.openedRecord p n g phase).node == m) = false from beq_false_of_ne (Ne.symm e), Bool.toNat_false] at live
    omega

theorem State.poolTrue_openRecord (hh : s.record h = none) (hfree : blocksNeeded g.len ≤ s.store.free.length)
    (hs : s.PoolTrue) : (s.openRecord p h n g phase).PoolTrue := by
  refine (s.replaced_openRecord p h n g phase).poolTrue (fun _ => ?_) (fun asc => ?_) (fun q e => ?_)
    (fun q e _ => by cases e; rfl) hs
  · rw [State.free_openRecord, Option.elim_some, StreamRecord.listedBlocks_eq, State.blocksOf, hh]
    refine (List.perm_append_comm).trans (.of_eq ?_)
    simp [State.openedRecord, newRecord]
  · rw [State.free_openRecord]
    exact asc.sublist (List.drop_sublist _ _)
  · cases e
    refine ⟨?_, nofun⟩
    show (s.store.free.take (blocksNeeded g.len)).length = blocksNeeded g.len
    rw [List.length_take, min_eq_left hfree]

theorem State.loadTrue_openRecord (hh : s.record h = none)
    (hadm : admissible s.table.load g.period phase (slotCost s.trunk.applied.w g.len) s.trunk.admissionLimit = true)
    (hs : s.LoadTrue) : (s.openRecord p h n g phase).LoadTrue := by
  refine (s.replaced_openRecord p h n g phase).loadTrue (by rw [State.openRecord_eq]) (fun k sum => ?_)
    (fun k hk => ?_) (fun q e _ => by cases e; rfl) hs
  · rw [State.load_openRecord, State.chargeOf, hh, Option.elim_none, Option.elim_some, StreamRecord.chargedAt_eq]
    rfl
  · rw [State.load_openRecord]
    exact add_chargeAt_le_of_admissible (q := g.params phase) hadm k hk

end Open

/-- An admitted OPEN_STREAM at a free handle (R2). -/
theorem State.keeps_openRecord {s : State} {h : Handle} {n : Node} {g : OpenArgs} (p : Port) (phase : Nat)
    (hh : s.record h = none) (hkey : keyFree s n g.channel g.direction)
    (hfree : blocksNeeded g.len ≤ s.store.free.length)
    (hadm : admissible s.table.load g.period phase (slotCost s.trunk.applied.w g.len) s.trunk.admissionLimit = true) :
    s.Keeps (s.openRecord p h n g phase) where
  mem := by rw [State.free_openRecord]; exact id
  keys := (s.replaced_openRecord p h n g phase).keysDistinct_of_keyFree hkey
  counts := State.countsTrue_openRecord p phase hh
  entries := .of_sched (by rw [State.openRecord_eq])
  pool := State.poolTrue_openRecord p phase hh hfree
  load := State.loadTrue_openRecord p phase hh hadm
  queue := .of_acyclic (by rw [State.openRecord_eq])

theorem State.keeps_judgeOpen (s : State) (p : Port) (n : Node) (g : OpenArgs) : s.Keeps (s.judgeOpen p n g).1 := by
  unfold State.judgeOpen
  dsimp only
  split
  · exact .refl s
  · split
    · exact .refl s
    · next hkey =>
      split
      · exact .refl s
      · next h hh =>
        split
        · exact .refl s
        · next hfree =>
          split
          · exact .refl s
          · next hadm =>
            exact State.keeps_openRecord p _ (State.record_of_chooseHandle hh)
              (State.findKey_eq_none.1 (by simpa using hkey)) (not_lt.1 hfree) (by simpa using hadm)

/-! ### AMEND_STREAM -/

/-- The record with the pending amendment that an admitted AMEND_STREAM gives it. -/
def State.amendedRecord (s : State) (r : StreamRecord) (g : AmendArgs) (phase : Nat) : StreamRecord :=
  { r with amendment := some ⟨g.params r.params phase,
      if g.len.getD r.params.len = r.params.len then none else some (s.store.free.take (g.blocks r.params))⟩ }

theorem State.amendRecord_eq (s : State) (h : Handle) (r : StreamRecord) (g : AmendArgs) (phase : Nat) :
    s.amendRecord h r g phase =
      { s with
        table := ⟨s.table.records.set h.val (some (s.amendedRecord r g phase)) h.isLt,
          addCharge s.table.load (g.period.getD r.params.period) phase
            (slotCost s.trunk.applied.w (g.len.getD r.params.len))⟩
        store := ⟨s.store.mem, s.store.free.drop (g.blocks r.params)⟩ } := rfl

theorem State.replaced_amendRecord (s : State) (h : Handle) (r : StreamRecord) (g : AmendArgs) (phase : Nat) :
    s.Replaced h (some (s.amendedRecord r g phase)) (s.amendRecord h r g phase) := by
  have record : ∀ k, (s.amendRecord h r g phase).record k =
      (s.setRecord h (some (s.amendedRecord r g phase))).record k := fun k => by
    rw [State.amendRecord_eq, State.record, State.record, State.table_setRecord]
  exact ⟨(record h).trans (s.record_setRecord_same h _), fun k hk => (record k).trans (s.record_setRecord_other h k _ hk)⟩

theorem State.load_amendRecord (s : State) (h : Handle) (r : StreamRecord) (g : AmendArgs) (phase : Nat) (k : Fin 128) :
    (s.amendRecord h r g phase).table.load[k.val] =
      s.table.load[k.val] + (g.params r.params phase).chargeAt s.trunk.applied.w k.val := by
  rw [State.amendRecord_eq]
  exact getElem_addCharge s.table.load (g.params r.params phase) s.trunk.applied.w k

section Amend

variable {s : State} {h : Handle} {r : StreamRecord} {g : AmendArgs} (phase : Nat)

theorem State.poolTrue_amendRecord (hr : s.record h = some r) (ha : r.amendment = none) (hc : r.state ≠ .closing)
    (hfree : g.blocks r.params ≤ s.store.free.length) (hs : s.PoolTrue) : (s.amendRecord h r g phase).PoolTrue := by
  refine (s.replaced_amendRecord h r g phase).poolTrue (fun _ => ?_) (fun asc => ?_) (fun q e => ?_)
    (fun q e hq => by cases e; exact absurd hq hc) hs
  · rw [State.amendRecord_eq, Option.elim_some, StreamRecord.listedBlocks_eq, State.blocksOf_of_record hr, ha,
      Option.elim_none, List.append_nil]
    show (s.store.free.drop (g.blocks r.params) ++ (r.blocks ++ (if g.len.getD r.params.len = r.params.len then none
      else some (s.store.free.take (g.blocks r.params))).getD [])).Perm (s.store.free ++ r.blocks)
    split
    · next hl => simp [AmendArgs.blocks, hl]
    · refine (List.perm_append_comm).trans ?_
      rw [Option.getD_some, List.append_assoc, List.take_append_drop]
      exact List.perm_append_comm
  · rw [State.amendRecord_eq]
    exact asc.sublist (List.drop_sublist _ _)
  · cases e
    refine ⟨(hs.sized h r hr).1, fun am e => ?_⟩
    cases e
    dsimp only
    split
    · next hb => exact of_not_not fun hl => nomatch (if_neg hl).symm.trans hb
    · next blocks hb =>
      by_cases hl : g.len.getD r.params.len = r.params.len
      · rw [if_pos hl] at hb
        exact absurd hb nofun
      · rw [if_neg hl] at hb
        cases hb
        rw [List.length_take, min_eq_left hfree, AmendArgs.blocks, if_neg hl]
        rfl

theorem State.loadTrue_amendRecord (hr : s.record h = some r) (ha : r.amendment = none) (hc : r.state ≠ .closing)
    (hadm : admissible s.table.load (g.period.getD r.params.period) phase
      (slotCost s.trunk.applied.w (g.len.getD r.params.len)) s.trunk.admissionLimit = true) (hs : s.LoadTrue) :
    (s.amendRecord h r g phase).LoadTrue := by
  refine (s.replaced_amendRecord h r g phase).loadTrue (by rw [State.amendRecord_eq]) (fun k sum => ?_)
    (fun k hk => ?_) (fun q e hq => by cases e; exact absurd hq hc) hs
  · rw [State.load_amendRecord, State.chargeOf_of_record hr, ha, Option.elim_none, Option.elim_some,
      StreamRecord.chargedAt_eq]
    simp only [State.amendedRecord, Option.elim_some]
    omega
  · rw [State.load_amendRecord]
    exact add_chargeAt_le_of_admissible (q := g.params r.params phase) hadm k hk

end Amend

/-- An admitted AMEND_STREAM of a record that holds no amendment (R19). -/
theorem State.keeps_amendRecord {s : State} {h : Handle} {r : StreamRecord} {g : AmendArgs} (phase : Nat)
    (hr : s.record h = some r) (ha : r.amendment = none) (hc : r.state ≠ .closing)
    (hfree : g.blocks r.params ≤ s.store.free.length)
    (hadm : admissible s.table.load (g.period.getD r.params.period) phase
      (slotCost s.trunk.applied.w (g.len.getD r.params.len)) s.trunk.admissionLimit = true) :
    s.Keeps (s.amendRecord h r g phase) where
  mem := id
  keys := (s.replaced_amendRecord h r g phase).keysDistinct fun q e => by
    cases e
    exact ⟨r, hr, rfl, rfl, rfl⟩
  counts hs n := by
    have live := (s.replaced_amendRecord h r g phase).liveAt n
    simp only [State.names, hr, Option.elim_some] at live
    have before := hs n
    have same : (s.amendRecord h r g phase).node n = s.node n := by rw [State.amendRecord_eq, State.node, State.node]
    rw [same]
    exact before.trans (Nat.add_right_cancel live).symm
  entries := .of_sched (by rw [State.amendRecord_eq])
  pool := State.poolTrue_amendRecord phase hr ha hc hfree
  load := State.loadTrue_amendRecord phase hr ha hc hadm
  queue := .of_acyclic (by rw [State.amendRecord_eq])

theorem State.keeps_judgeAmend {s : State} {h : Handle} {r : StreamRecord} (g : AmendArgs) (released : Bool)
    (hr : s.record h = some r) (ha : r.amendment = none) (hc : r.state ≠ .closing) :
    s.Keeps (s.judgeAmend h r g released).1 := by
  unfold State.judgeAmend
  dsimp only
  split
  · exact .refl s
  · split
    · exact .refl s
    · split
      · exact .refl s
      · next hfree =>
        split
        · exact .refl s
        · next hadm => exact State.keeps_amendRecord _ hr ha hc (not_lt.1 hfree) (by simpa using hadm)

/-! ### SET_CONFIG (R36 to R38) -/

theorem Vector.toList_map_eq {α β : Type} (v : Vector α 64) (f : α → β) :
    v.toList.map f = handles.map fun h => f v[h.val] :=
  List.ext_getElem (by simp [handles]) fun i h₁ h₂ => by simp [handles]

theorem State.chargesAt_eq (s : State) (k : Nat) :
    s.table.chargesAt k = (handles.map fun h => (s.record h).elim 0 fun r => r.chargesAt k).sum := by
  rw [StreamTable.chargesAt, Vector.toList_map_eq]
  congr 2
  funext h
  unfold State.record
  cases s.table.records[h.val] <;> rfl

theorem Params.chargeAt_add (q : Params) (v w k : Nat) :
    q.chargeAt w k + (dueAt q.period q.phase k).toNat * v = q.chargeAt v k + (dueAt q.period q.phase k).toNat * w := by
  unfold Params.chargeAt slotCost
  cases dueAt q.period q.phase k
  · simp
  · simp only [if_true, Bool.toNat_true]
    omega

/-- What a record's charges change by when W does (R26, R38). -/
theorem StreamRecord.chargedAt_add (r : StreamRecord) (v w k : Nat) :
    r.chargedAt w k + r.chargesAt k * v = r.chargedAt v k + r.chargesAt k * w := by
  have own := r.params.chargeAt_add v w k
  unfold StreamRecord.chargedAt StreamRecord.chargesAt
  cases r.amendment with
  | none => simpa using own
  | some am =>
    have pending := am.params.chargeAt_add v w k
    simp only [Nat.add_mul]
    omega

theorem sum_map_add_mul {f g n : Handle → Nat} {v w : Nat} (l : List Handle)
    (h : ∀ k, f k + n k * v = g k + n k * w) :
    (l.map f).sum + (l.map n).sum * v = (l.map g).sum + (l.map n).sum * w := by
  induction l with
  | nil => simp
  | cons a l ih =>
    have ha := h a
    simp only [List.map_cons, List.sum_cons, Nat.add_mul]
    omega

/-- The charges of the live records when W alone is replaced. -/
theorem State.chargedAt_updWindow (s : State) (u : CycleUnit) (k : Nat) :
    ({ s with trunk := u } : State).chargedAt k + s.table.chargesAt k * s.trunk.applied.w =
      s.chargedAt k + s.table.chargesAt k * u.applied.w := by
  rw [State.chargedAt_eq, State.chargedAt_eq, State.chargesAt_eq]
  refine sum_map_add_mul handles fun h => ?_
  unfold State.chargeOf
  show (s.record h).elim 0 _ + _ = _
  cases s.record h with
  | none => simp
  | some r => exact r.chargedAt_add s.trunk.applied.w u.applied.w k

/-- The map that SET_CONFIG leaves: recomputed when W is named. -/
def State.configuredLoad (s : State) (g : ConfigArgs) : Vector Nat 128 :=
  match g.w with
  | some w => s.table.recomputed s.trunk.applied.w w
  | none => s.table.load

theorem State.raiseBoth_eq (s : State) (r : Reason) :
    s.raiseBoth r = { s with attn := ⟨s.attn.a.raise .global r, s.attn.b.raise .global r⟩ } := rfl

theorem State.setConfig_eq (s : State) (g : ConfigArgs) :
    s.setConfig g =
      { s with
        table := { s.table with load := s.configuredLoad g }
        trunk := g.configured s.stopped s.trunk
        attn := if s.stopped then (s.raiseBoth .configApplied).attn else s.attn } := by
  unfold State.setConfig State.configuredLoad
  cases g.w <;> dsimp only <;> split <;>
    simp only [State.raiseBoth_eq, State.updTrunk, State.setLoad]

theorem fitsBudget_iff {load : Vector Nat 128} {b : Nat} :
    fitsBudget load b = true ↔ ∀ k : Fin 128, load[k.val] ≤ b := by
  rw [fitsBudget, List.all_eq_true]
  constructor
  · intro h k
    simpa using h load[k.val] (by simp)
  · intro h e he
    obtain ⟨i, hi, rfl⟩ := List.getElem_of_mem he
    simpa using h ⟨i, by simpa using hi⟩

theorem State.getElem_recomputed (s : State) (w : Nat) (k : Fin 128) (hs : s.table.load[k.val] = s.chargedAt k.val) :
    (s.table.recomputed s.trunk.applied.w w)[k.val] + s.table.chargesAt k.val * s.trunk.applied.w =
      s.table.load[k.val] + s.table.chargesAt k.val * w := by
  have sum := s.chargedAt_updWindow { s.trunk with applied := { s.trunk.applied with w := w } } k.val
  dsimp only at sum
  simp only [StreamTable.recomputed, Vector.getElem_ofFn]
  omega

theorem ConfigArgs.configured_state (g : ConfigArgs) (b : Bool) (u : CycleUnit) :
    (g.configured b u).state = u.state := by
  unfold ConfigArgs.configured
  dsimp only
  split <;> rfl

theorem ConfigArgs.configured_window (g : ConfigArgs) (b : Bool) (u : CycleUnit) (hb : b = false → g.w = none) :
    (g.configured b u).applied.w = g.w.getD u.applied.w := by
  unfold ConfigArgs.configured
  dsimp only
  split
  · rfl
  · next h => rw [hb (by simpa using h)]; rfl

/-- The Load Map under an admitted SET_CONFIG's configuration is that of the live records' charges. -/
theorem State.load_setConfig {s : State} {g : ConfigArgs} (hw : s.stopped = false → g.w = none) (k : Fin 128)
    (hs : s.table.load[k.val] = s.chargedAt k.val) :
    (s.configuredLoad g)[k.val] = (s.setConfig g).chargedAt k.val := by
  have window := g.configured_window s.stopped s.trunk hw
  have charged := s.chargedAt_updWindow (g.configured s.stopped s.trunk) k.val
  have same : (s.setConfig g).chargedAt k.val =
      ({ s with trunk := g.configured s.stopped s.trunk } : State).chargedAt k.val := by
    rw [State.setConfig_eq]
    rfl
  rw [same]
  unfold State.configuredLoad
  cases hgw : g.w with
  | none =>
    rw [window, hgw, Option.getD_none] at charged
    exact hs.trans (Nat.add_right_cancel charged).symm
  | some w =>
    have recomputed := s.getElem_recomputed w k hs
    rw [window, hgw, Option.getD_some] at charged
    dsimp only
    omega

theorem ConfigArgs.limit_of_stopped {g : ConfigArgs} {u : CycleUnit} (hu : u.staged = none) :
    (g.configured true u).admissionLimit = budget (g.candidate u).c (g.candidate u).a := by
  simp [ConfigArgs.configured, CycleUnit.admissionLimit, CycleUnit.appliedBudget, hu]

theorem ConfigArgs.limit_of_running {g : ConfigArgs} {u : CycleUnit} :
    (g.configured false u).admissionLimit = min u.appliedBudget (budget (g.candidate u).c (g.candidate u).a) := by
  simp [ConfigArgs.configured, CycleUnit.admissionLimit, CycleUnit.appliedBudget]

theorem CycleUnit.admissionLimit_le_applied (u : CycleUnit) : u.admissionLimit ≤ u.appliedBudget := by
  unfold CycleUnit.admissionLimit
  split
  · exact min_le_left _ _
  · exact le_refl _

/-- An admitted SET_CONFIG names C or A, or the trunk is stopped. -/
theorem ConfigArgs.names_of_running {g : ConfigArgs} (hr : g.inRange = true) (hn : g.namesStopped = false) :
    ¬(g.c = none ∧ g.a = none) := by
  rintro ⟨hc, ha⟩
  simp only [ConfigArgs.namesStopped, Bool.or_eq_false_iff, Option.isSome_eq_false_iff, Option.isNone_iff_eq_none] at hn
  obtain ⟨⟨hw, ht⟩, hi⟩ := hn
  simp [ConfigArgs.inRange, ConfigArgs.namesNothing, hc, ha, hw, ht, hi] at hr

theorem State.within_setConfig {s : State} {g : ConfigArgs} (hs : s.LoadTrue) (hr : g.inRange = true)
    (hn : s.stopped = false → g.namesStopped = false) (hf : s.configFits g = true) (k : Fin 128) :
    (s.configuredLoad g)[k.val] ≤ (g.configured s.stopped s.trunk).admissionLimit := by
  simp only [State.configFits, Bool.and_eq_true, Bool.or_eq_true, Option.isNone_iff_eq_none, fitsBudget_iff] at hf
  obtain ⟨fit, window⟩ := hf
  unfold State.configuredLoad
  have within := hs.within k
  cases hst : s.stopped with
  | false =>
    have hnames := hn hst
    have hw : g.w = none := by
      simp only [ConfigArgs.namesStopped, Bool.or_eq_false_iff, Option.isSome_eq_false_iff,
        Option.isNone_iff_eq_none] at hnames
      exact hnames.1.1
    rw [hw, ConfigArgs.limit_of_running]
    exact le_min (within.trans s.trunk.admissionLimit_le_applied)
      (fit.resolve_left (ConfigArgs.names_of_running hr hnames) k)
  | true =>
    have hunstaged := hs.unstaged hst
    cases hw : g.w with
    | some w =>
      rw [hw, hst] at window
      exact fitsBudget_iff.1 window k
    | none =>
      rw [ConfigArgs.limit_of_stopped hunstaged]
      rcases fit with ⟨hc, ha⟩ | fit
      · simpa [ConfigArgs.candidate, hunstaged, hc, ha, CycleUnit.admissionLimit, CycleUnit.appliedBudget] using within
      · exact fit k

/-- An admitted SET_CONFIG (R36 to R38, R75). -/
theorem State.keeps_setConfig {s : State} {g : ConfigArgs} (hr : g.inRange = true)
    (hn : s.stopped = false → g.namesStopped = false) (hf : s.configFits g = true) : s.Keeps (s.setConfig g) := by
  have hw : s.stopped = false → g.w = none := fun h => by
    have := hn h
    simp only [ConfigArgs.namesStopped, Bool.or_eq_false_iff, Option.isSome_eq_false_iff,
      Option.isNone_iff_eq_none] at this
    exact this.1.1
  have records : (s.setConfig g).record = s.record := by
    funext h
    rw [State.setConfig_eq]
    rfl
  have quiet := (State.Quiet.refl s).keeps
  refine ⟨?_, ?_, ?_, ?_, ?_, fun hs => ?_, .of_acyclic (by rw [State.setConfig_eq])⟩
  · rw [State.setConfig_eq]
    exact id
  · exact State.keysDistinct_of_claims fun h => by rw [State.claimAt, records, State.claimAt]
  · intro hs n
    rw [State.liveAt, records]
    rw [State.setConfig_eq]
    exact hs n
  · exact .of_sched (by rw [State.setConfig_eq])
  · intro hs
    have blocks : (s.setConfig g).listedBlocks = s.listedBlocks := by rw [State.listedBlocks, records, State.listedBlocks]
    have store : (s.setConfig g).store = s.store := by rw [State.setConfig_eq]
    exact ⟨by rw [store, blocks]; exact hs.partition, by rw [store]; exact hs.ascending,
      by rw [records]; exact hs.sized, by rw [State.ClosingBare, records]; exact hs.bare⟩
  · have load : (s.setConfig g).table.load = s.configuredLoad g := by rw [State.setConfig_eq]
    have trunk : (s.setConfig g).trunk = g.configured s.stopped s.trunk := by rw [State.setConfig_eq]
    refine ⟨fun k => ?_, fun k => ?_, by rw [State.ClosingBare, records]; exact hs.bare, fun hst => ?_⟩
    · rw [load]
      exact State.load_setConfig hw k (hs.sums k)
    · rw [load, trunk]
      exact State.within_setConfig hs hr hn hf k
    · have still : s.stopped = true := by
        simpa only [State.stopped, trunk, ConfigArgs.configured_state] using hst
      rw [trunk, still]
      exact hs.unstaged still

end Sys2Proof.Machine
end

section
/-! PROOFS. What the host commands and the port events keep of the tables. -/

namespace Sys2Proof.Machine

/-! ### A command taken and answered -/

theorem State.quiet_deliver (s : State) (c : Command) (a : Answer) : s.Quiet (s.deliver c a) :=
  State.quiet_of_same (by simp) (by simp) (by simp) (by simp) (by simp) (by simp)

theorem State.keeps_serve (s : State) (p : Port) (name : CommandName)
    {owner : Port → List Byte → State → State × Answer} (ho : ∀ q body (u : State), u.Keeps (owner q body u).1) :
    s.Keeps (s.serve p name owner) := by
  obtain e | ⟨c, rest, -, -, -, e⟩ := s.serve_cases p name owner <;> rw [e]
  · exact .refl s
  · have taken : s.Quiet (s.taken rest) := State.quiet_of_same rfl rfl rfl rfl rfl rfl
    exact (taken.keeps.trans (ho p c.body _)).trans (State.quiet_deliver _ c _).keeps

theorem State.keeps_withRecord {s : State} {b : Byte} {act : Handle → StreamRecord → State × Answer}
    (ha : ∀ h r, s.record h = some r → s.Keeps (act h r).1) : s.Keeps (s.withRecord b act).1 := by
  unfold State.withRecord
  split
  · exact .refl s
  · split
    · exact .refl s
    · next r hr => exact ha _ r hr

theorem State.keeps_withOwnRecord {s : State} {p : Port} {b : Byte} {act : Handle → StreamRecord → State × Answer}
    (ha : ∀ h r, s.record h = some r → s.Keeps (act h r).1) : s.Keeps (s.withOwnRecord p b act).1 :=
  State.keeps_withRecord fun h r hr => by
    split
    · exact ha h r hr
    · exact .refl s

theorem State.keeps_withOwnRequest {s : State} {p : Port} {body : List Byte} {act : ReqId → Request → State × Answer}
    (ha : ∀ id q, s.request id = some q → s.Keeps (act id q).1) : s.Keeps (s.withOwnRequest p body act).1 := by
  unfold State.withOwnRequest
  split
  · exact .refl s
  · split
    · exact .refl s
    · split
      · exact .refl s
      · next q hq =>
        split
        · exact ha _ q hq
        · exact .refl s

/-! ### The Table Controller's commands -/

theorem keeps_ownOpenStream (p : Port) (body : List Byte) (s : State) : s.Keeps (ownOpenStream p body s).1 := by
  unfold ownOpenStream
  split
  · exact .refl s
  · split
    · exact .refl s
    · split
      · exact .refl s
      · exact s.keeps_judgeOpen p _ _

theorem keeps_ownAmendStream (p : Port) (body : List Byte) (s : State) : s.Keeps (ownAmendStream p body s).1 := by
  unfold ownAmendStream
  split
  · exact .refl s
  · refine State.keeps_withOwnRecord fun h r hr => ?_
    split
    · exact .refl s
    · next hc =>
      exact (State.keeps_dropAmendment hr).trans
        (State.keeps_judgeAmend _ _ (State.record_dropAmendment hr) rfl hc)

theorem keeps_ownCloseStream (p : Port) (body : List Byte) (s : State) : s.Keeps (ownCloseStream p body s).1 := by
  unfold ownCloseStream
  split
  · exact .refl s
  · refine State.keeps_withOwnRecord fun h r hr => ?_
    split
    · exact .refl s
    · split
      · exact State.keeps_retire hr
      · exact (State.keeps_retire hr).trans (State.quiet_advance _).keeps

theorem keeps_ownReadStream (p : Port) (body : List Byte) (s : State) : s.Keeps (ownReadStream p body s).1 := by
  unfold ownReadStream
  split
  · exact .refl s
  · refine State.keeps_withRecord fun h r hr => ?_
    split
    · exact .refl s
    · split
      · exact (State.quiet_setRecord (q := r.cleared) hr (by rfl) fun hc => .inr hc).keeps
      · exact .refl s

theorem ownFindStream_unchanged (p : Port) (body : List Byte) (s : State) : (ownFindStream p body s).1 = s := by
  unfold ownFindStream
  (repeat' split) <;> rfl

theorem State.quiet_postRecord {s : State} {h : Handle} {r : StreamRecord} (value : List Byte)
    (hr : s.record h = some r) : s.Quiet (s.postRecord h r value) :=
  (s.quiet_storeBytes _ value).trans (State.quiet_setRecord (r := r) hr (by rfl) fun hc => .inr hc)

theorem keeps_ownPostValue (p : Port) (body : List Byte) (s : State) : s.Keeps (ownPostValue p body s).1 := by
  unfold ownPostValue
  split
  · exact .refl s
  · refine State.keeps_withOwnRecord fun h r hr => ?_
    split
    · exact .refl s
    · split
      · exact .refl s
      · exact (State.quiet_postRecord _ hr).keeps

theorem StreamRecord.renewed_claim (p : Port) (r : StreamRecord) : (r.renewed p).claim = r.claim := by
  unfold StreamRecord.renewed
  split <;> rfl

theorem StreamRecord.renewed_state (p : Port) (r : StreamRecord) : (r.renewed p).state = r.state := by
  unfold StreamRecord.renewed
  split <;> rfl

theorem keeps_ownRenewLeases (p : Port) (body : List Byte) (s : State) : s.Keeps (ownRenewLeases p body s).1 := by
  unfold ownRenewLeases
  split
  · exact .refl s
  · exact (s.quiet_mapRecords _ (StreamRecord.renewed_claim p) (StreamRecord.renewed_state p)).keeps

theorem keeps_ownRestartStream (p : Port) (body : List Byte) (s : State) : s.Keeps (ownRestartStream p body s).1 := by
  unfold ownRestartStream
  split
  · exact .refl s
  · refine State.keeps_withOwnRecord fun h r hr => ?_
    split
    · exact .refl s
    · refine (State.quiet_setRecord hr (by rfl) fun hc => ?_).keeps
      have : s.beginState r.node ≠ .closing := by unfold State.beginState; split <;> decide
      exact absurd hc this

theorem ownReadLoad_unchanged (p : Port) (body : List Byte) (s : State) : (ownReadLoad p body s).1 = s := by
  unfold ownReadLoad
  (repeat' split) <;> rfl

/-! ### The Acyclic Scheduler's commands -/

theorem State.request_of_freeReqId {s : State} {id : ReqId} (hf : s.freeReqId = some id) : s.request id = none := by
  simpa using List.find?_some hf

theorem keeps_ownSendRequest (p : Port) (body : List Byte) (s : State) : s.Keeps (ownSendRequest p body s).1 := by
  unfold ownSendRequest
  split
  · exact .refl s
  · split
    · exact .refl s
    · split
      · exact .refl s
      · split
        · exact .refl s
        · next hf => exact (State.quiet_sendRequest p _ _ (State.request_of_freeReqId hf)).keeps

theorem keeps_ownFetchRequest (p : Port) (body : List Byte) (s : State) : s.Keeps (ownFetchRequest p body s).1 :=
  State.keeps_withOwnRequest fun id q _ => by
    split
    · exact (s.quiet_freeRequest id).keeps
    · exact (s.quiet_freeRequest id).keeps
    · exact .refl s
    · exact .refl s
    · exact .refl s

theorem keeps_ownCancelRequest (p : Port) (body : List Byte) (s : State) : s.Keeps (ownCancelRequest p body s).1 :=
  State.keeps_withOwnRequest fun id q _ => by
    split
    · exact .refl s
    · split
      · exact (s.quiet_cancel id q).keeps
      · exact ((s.quiet_cancel id q).trans (State.quiet_advance _)).keeps

/-! ### The commands of the Node Roster and of the Attention Unit -/

theorem ownReadNode_unchanged (p : Port) (body : List Byte) (s : State) : (ownReadNode p body s).1 = s := by
  unfold ownReadNode
  (repeat' split) <;> rfl

theorem State.quiet_appendProbes (s : State) (new : List Node) : s.Quiet (s.appendProbes new) :=
  s.quiet_deferred _ _ _ _

theorem State.quiet_scan (s : State) : s.Quiet s.scan := by
  unfold State.scan
  dsimp only
  split
  · exact s.quiet_appendProbes _
  · exact (s.quiet_appendProbes _).trans (State.quiet_deferred _ _ _ _ _)

theorem keeps_ownScanNodes (p : Port) (body : List Byte) (s : State) : s.Keeps (ownScanNodes p body s).1 := by
  unfold ownScanNodes
  split
  · exact .refl s
  · exact s.quiet_scan.keeps

theorem State.quiet_setPort (s : State) (ports : PerPort HostPort) (attn : PerPort AttnSet) :
    s.Quiet { s with ports := ports, attn := attn } :=
  State.quiet_of_same rfl rfl rfl rfl rfl rfl

theorem keeps_ownReadAttn (p : Port) (body : List Byte) (s : State) : s.Keeps (ownReadAttn p body s).1 := by
  unfold ownReadAttn
  split
  · exact .refl s
  · exact (s.quiet_setPort s.ports _).keeps

theorem State.quiet_updPort (s : State) (p : Port) (f : HostPort → HostPort) : s.Quiet (s.updPort p f) :=
  State.quiet_of_same rfl rfl rfl rfl rfl rfl

theorem keeps_ownSetAttnMask (p : Port) (body : List Byte) (s : State) : s.Keeps (ownSetAttnMask p body s).1 := by
  unfold ownSetAttnMask
  split
  · exact .refl s
  · dsimp only
    exact (s.quiet_updPort p _).keeps

/-! ### The Cycle Unit's commands -/

/-- An exchange abandoned: its CLOSING record is freed, or its CANCELLING request. -/
theorem State.keeps_abandon (s : State) : s.Keeps s.abandon := by
  have idle := s.quiet_setEngine .idle
  obtain e | ⟨h, r, hr, hc, e⟩ | ⟨id, q, -, -, e⟩ := s.abandon_cases <;> rw [e]
  · exact idle.keeps
  · exact idle.keeps.trans (State.keeps_endClosing (s := s.setEngine .idle) hr hc)
  · exact (idle.trans (State.quiet_endCancelling _ id q)).keeps

theorem State.keeps_enterFaulted (s : State) (cause : FaultCause) : s.Keeps (s.enterFaulted cause) := by
  have cleared : (s.abandon.setTx none).Quiet { s.abandon.setTx none with sched := ⟨[], [], []⟩ } :=
    State.quiet_sched _ _ fun _ => List.nodup_nil
  exact s.keeps_abandon.trans ((((State.quiet_setTx _ _).trans cleared).trans
    (State.quiet_applyStaged_after _ _ rfl rfl)).trans (State.quiet_raiseBoth _ _)).keeps

theorem State.quiet_beginRestartMark (s : State) : s.Quiet s.beginRestartMark :=
  (s.quiet_applyStaged.trans (State.quiet_updTrunk _ _ (by rfl) (by rfl) (by rfl))).trans (State.quiet_setTx _ _)

theorem State.keeps_restartMarkFallsDue (s : State) : s.Keeps s.restartMarkFallsDue := by
  unfold State.restartMarkFallsDue
  split
  · exact s.keeps_enterFaulted _
  · exact s.quiet_beginRestartMark.keeps

theorem State.quiet_trunkRestart (s : State) (hs : s.stopped = true) : s.Quiet s.trunkRestart := by
  have records := s.quiet_mapRecords StreamRecord.resynced (fun _ => by rfl) (fun _ => by rfl)
  have roster := s.quiet_roster (s.roster.map fun e => { e with failures := 0 }) fun n => by simp [State.node]
  exact { records with
    streams := roster.streams
    entries := fun _ => List.nodup_nil
    queue := fun h => ⟨h.once, h.holds⟩
    unstaged := fun hu _ => hu hs }

theorem State.stopped_senseLfault (s : State) (b : Bool) : (s.senseLfault b).stopped = s.stopped := by
  unfold State.senseLfault
  split <;> rfl

theorem State.quiet_senseLfault (s : State) (b : Bool) : s.Quiet (s.senseLfault b) := by
  unfold State.senseLfault
  split
  · exact State.quiet_of_same rfl rfl rfl rfl rfl rfl
  · exact .refl s

theorem keeps_ownStartTrunk (lfault : Bool) (p : Port) (body : List Byte) (s : State) :
    s.Keeps (ownStartTrunk lfault p body s).1 := by
  unfold ownStartTrunk
  split
  · exact .refl s
  · split
    · exact .refl s
    · next hs =>
      split
      · exact (s.quiet_senseLfault true).keeps
      · exact ((s.quiet_senseLfault false).trans (State.quiet_trunkRestart _
          ((s.stopped_senseLfault false).trans (by simpa using hs)))).keeps.trans (State.keeps_restartMarkFallsDue _)

theorem State.quiet_haltTrunk (s : State) : s.Quiet s.haltTrunk := by
  unfold State.haltTrunk
  split
  · next hr =>
    refine s.quiet_trunk _ rfl (le_of_eq rfl) fun _ hd => ?_
    simp [State.stopped] at hd
  · split
    · exact s.quiet_updTrunk _ rfl rfl rfl
    · exact s.quiet_enterHalted
  all_goals exact .refl s

theorem keeps_ownHaltTrunk (p : Port) (body : List Byte) (s : State) : s.Keeps (ownHaltTrunk p body s).1 := by
  unfold ownHaltTrunk
  split
  · exact .refl s
  · split
    · exact s.quiet_haltTrunk.keeps
    · exact .refl s

theorem keeps_ownSetConfig (p : Port) (body : List Byte) (s : State) : s.Keeps (ownSetConfig p body s).1 := by
  unfold ownSetConfig
  split
  · exact .refl s
  · dsimp only
    split
    · exact .refl s
    · next hr =>
      split
      · exact .refl s
      · next hn =>
        split
        · exact .refl s
        · next hf => exact State.keeps_setConfig (by simp_all) (by simp_all) (by simp_all)

theorem ownReadConfig_unchanged (p : Port) (body : List Byte) (s : State) : (ownReadConfig p body s).1 = s := by
  unfold ownReadConfig
  split <;> rfl

/-! ### The port events -/

/-- Each next state that an outcome can be keeps the invariants. -/
def State.StepsKeeping (s : State) (o : Host.Outcome State Fault Refusal) : Prop := ∀ t, o = .next t → s.Keeps t

@[simp] theorem State.stepsKeeping_next {s t : State} : s.StepsKeeping (.next t) ↔ s.Keeps t :=
  ⟨fun h => h t rfl, fun h u e => by cases e; exact h⟩

theorem State.stepsKeeping_of_quiet {s t : State} (h : s.Quiet t) : s.StepsKeeping (.next t) :=
  State.stepsKeeping_next.2 h.keeps

theorem State.stepsKeeping_self (s : State) : s.StepsKeeping (.next s) := State.stepsKeeping_next.2 (.refl s)

theorem stepsKeeping_badCommand (p : Port) (s : State) : s.StepsKeeping (execBadCommand p s) := by
  unfold execBadCommand
  split
  · exact s.stepsKeeping_self
  · next c t ht =>
    obtain ⟨rest, -, -, -, rfl⟩ := State.takeCommand_eq_some.1 ht
    exact State.stepsKeeping_of_quiet (State.quiet_of_same rfl rfl rfl rfl rfl rfl)

theorem stepsKeeping_selFalls (p : Port) (s : State) : s.StepsKeeping (execSelFalls p s) := by
  unfold execSelFalls
  split
  · exact State.stepsKeeping_of_quiet (s.quiet_updPort p _)
  all_goals exact s.stepsKeeping_self

theorem stepsKeeping_kindByteWhole (p : Port) (s : State) : s.StepsKeeping (execKindByteWhole p s) := by
  unfold execKindByteWhole
  split
  · exact State.stepsKeeping_of_quiet (s.quiet_updPort p _)
  all_goals exact s.stepsKeeping_self

theorem State.quiet_judgeFrame (s : State) (p : Port) (c : Command) : s.Quiet (s.judgeFrame p c) := by
  unfold State.judgeFrame
  dsimp only
  split <;> exact State.quiet_of_same rfl rfl rfl rfl rfl rfl

theorem stepsKeeping_commandTransaction (p : Port) (sent : List Byte) (s : State) :
    s.StepsKeeping (execCommandTransaction p sent s) := by
  unfold execCommandTransaction
  split
  · split
    · exact State.stepsKeeping_of_quiet (s.quiet_judgeFrame p _)
    · exact State.stepsKeeping_of_quiet (s.quiet_updPort p _)
  · exact State.stepsKeeping_of_quiet (s.quiet_updPort p _)
  all_goals exact s.stepsKeeping_self

theorem stepsKeeping_resultTransaction (p : Port) (clocked : Nat) (s : State) :
    s.StepsKeeping (execResultTransaction p clocked s) := by
  unfold execResultTransaction
  split
  · split <;> exact State.stepsKeeping_of_quiet (s.quiet_updPort p _)
  · exact State.stepsKeeping_of_quiet (s.quiet_updPort p _)
  all_goals exact s.stepsKeeping_self

theorem State.keeps_retireOwned (p : Port) (s : State) (h : Handle) : s.Keeps (State.retireOwned p s h) := by
  unfold State.retireOwned
  split
  · exact .refl s
  · next r hr =>
    split
    · exact State.keeps_retire hr
    · exact .refl s

theorem State.quiet_cancelOwned (p : Port) (s : State) (id : ReqId) : s.Quiet (State.cancelOwned p s id) := by
  unfold State.cancelOwned
  split
  · exact .refl s
  · split
    · exact s.quiet_cancel id _
    · exact .refl s

theorem State.keeps_endSession (s : State) (p : Port) : s.Keeps (s.endSession p) := by
  have arbiter : s.Quiet { s with arbiter := s.arbiter.endSession p } :=
    State.quiet_of_same rfl rfl rfl rfl rfl rfl
  have records := State.keeps_foldl (State.keeps_retireOwned p) handles { s with arbiter := s.arbiter.endSession p }
  have requests := State.quiet_foldl (State.quiet_cancelOwned p) reqIds
    (handles.foldl (State.retireOwned p) { s with arbiter := s.arbiter.endSession p })
  have port (u : State) :
      u.Quiet (({ u with attn := u.attn.put p .empty } : State).updPort p fun _ => .reset).advance :=
    ((u.quiet_setPort u.ports _).trans (State.quiet_updPort _ p _)).trans (State.quiet_advance _)
  exact ((arbiter.keeps.trans records).trans requests.keeps).trans (port _).keeps

theorem stepsKeeping_portReset (p : Port) (sent : List Byte) (s : State) :
    s.StepsKeeping (execPortReset p sent s) := by
  unfold execPortReset
  split
  · split
    · exact State.stepsKeeping_next.2 (s.keeps_endSession p)
    · exact State.stepsKeeping_of_quiet (s.quiet_updPort p _)
  · exact State.stepsKeeping_of_quiet (s.quiet_updPort p _)
  all_goals exact s.stepsKeeping_self

theorem stepsKeeping_transactionNotTaken (p : Port) (sent : List Byte) (s : State) :
    s.StepsKeeping (execTransactionNotTaken p sent s) := by
  unfold execTransactionNotTaken
  split
  · split
    · exact State.stepsKeeping_of_quiet (s.quiet_updPort p _)
    · exact s.stepsKeeping_self
  · exact State.stepsKeeping_of_quiet (s.quiet_updPort p _)
  all_goals exact s.stepsKeeping_self

end Sys2Proof.Machine
end

section
/-! PROOFS. What the trunk, the schedulers' turns and the ends of exchanges keep of the tables, what a device reset
leaves of them, and the obligations on the invariants of memory, keys, counts, blocks, load and queue. -/

namespace Sys2Proof.Machine

/-! ### The cycle mark -/

theorem periods_nodup : periods.Nodup := by decide

theorem State.period_of_listed {s : State} {cycle period : Nat} {h : Handle} (hl : s.listed cycle period h = true) :
    ∃ r, s.record h = some r ∧ r.params.period = period := by
  unfold State.listed at hl
  split at hl
  · cases hl
  · next r hr => exact ⟨r, hr, by simp_all⟩

/-- Each listed record has one period, and so one place. -/
theorem State.dueList_nodup (s : State) (cycle : Nat) : (s.dueList cycle).Nodup := by
  refine List.nodup_flatMap.2 ⟨fun p _ => (List.nodup_finRange 64).filter _, periods_nodup.imp fun {p q} hpq => ?_⟩
  intro h hp hq
  obtain ⟨r, hr, er⟩ := State.period_of_listed (List.mem_filter.1 hp).2
  obtain ⟨r', hr', er'⟩ := State.period_of_listed (List.mem_filter.1 hq).2
  cases hr.symm.trans hr'
  exact hpq (er.symm.trans er')

theorem State.quiet_formLists (s : State) : s.Quiet s.formLists :=
  s.quiet_sched _ fun _ => by
    rw [List.map_map]
    exact (List.map_id _).symm ▸ s.dueList_nodup _

theorem State.quiet_intervalProbes (s : State) : s.Quiet s.intervalProbes := by
  unfold State.intervalProbes
  split
  · exact s.quiet_appendProbes _
  · exact .refl s

theorem State.keeps_expireLease (s : State) (h : Handle) : s.Keeps (s.expireLease h) := by
  unfold State.expireLease
  split
  · exact .refl s
  · next r hr =>
    split
    · exact (State.keeps_retire hr).trans (State.quiet_raise _ _ _ _).keeps
    · exact .refl s

theorem StreamRecord.aged_claim (r : StreamRecord) : r.aged.claim = r.claim := by
  unfold StreamRecord.aged
  split <;> rfl

theorem StreamRecord.aged_state (r : StreamRecord) : r.aged.state = r.state := by
  unfold StreamRecord.aged
  split <;> rfl

theorem State.quiet_updRecord (s : State) (h : Handle) (f : StreamRecord → StreamRecord)
    (claim : ∀ r, (f r).claim = r.claim) (state : ∀ r, (f r).state = r.state) : s.Quiet (s.updRecord h f) := by
  unfold State.updRecord
  split
  · next r hr => exact State.quiet_setRecord hr (claim r) fun hc => .inr ((state r).symm.trans hc)
  · exact .refl s

theorem State.keeps_markRecord (s : State) (h : Handle) : s.Keeps (s.markRecord h) := by
  unfold State.markRecord
  split
  · exact .refl s
  · next r hr =>
    have counted : s.Keeps (match r.amendment with
        | some am => s.applyAmendment h r am
        | none => s.setRecord h (some r.leaseCounted)) := by
      split
      · next ha => exact State.keeps_applyAmendment hr ha
      · exact (State.quiet_setRecord (q := r.leaseCounted) hr (by rfl) fun hc => .inr hc).keeps
    exact (counted.trans (State.quiet_updRecord _ h _ StreamRecord.aged_claim StreamRecord.aged_state).keeps).trans
      (State.keeps_expireLease _ h)

theorem State.quiet_toRunning (s : State) (cycle : BitVec 16) :
    s.Quiet (s.updTrunk fun u => { u with state := .running, cycle := cycle }) :=
  s.quiet_trunk _ rfl (le_of_eq rfl) fun _ h => by simp [State.stopped] at h

theorem State.quiet_openCycle (s : State) : s.Quiet s.openCycle := by
  have opened : s.Quiet (if s.applyStaged.trunk.state = .syncing then
      (s.applyStaged.updTrunk fun u => { u with state := .running, cycle := 0 }).raiseBoth .trunkRunning
    else s.applyStaged.updTrunk fun u => { u with cycle := u.cycle + 1 }) := by
    split
    · exact (s.quiet_applyStaged.trans (State.quiet_toRunning _ 0)).trans (State.quiet_raiseBoth _ _)
    · exact s.quiet_applyStaged.trans (State.quiet_updTrunk _ _ (by rfl) (by rfl) (by rfl))
  exact (opened.trans (State.quiet_updTrunk _ _ (by rfl) (by rfl) (by rfl))).trans (State.quiet_setTx _ _)

theorem State.keeps_beginCycleMark (s : State) : s.Keeps s.beginCycleMark :=
  (s.quiet_openCycle.keeps.trans (State.keeps_foldl State.keeps_markRecord handles _)).trans
    ((State.quiet_formLists _).trans (State.quiet_intervalProbes _)).keeps

/-! ### The starts of exchanges -/

theorem State.quiet_startExchange (s : State) (poll : Poll) (n : Node) (frame : List Byte) (slot : Nat) :
    s.Quiet (s.startExchange poll n frame slot) :=
  State.quiet_of_same rfl rfl rfl rfl rfl rfl

theorem StreamRecord.selected_claim (r : StreamRecord) : r.selected.claim = r.claim := by
  unfold StreamRecord.selected
  split <;> rfl

theorem StreamRecord.selected_state (r : StreamRecord) : r.selected.state = r.state := by
  unfold StreamRecord.selected
  split <;> rfl

theorem State.quiet_startStreamPoll {s : State} {h : Handle} {r : StreamRecord} (hr : s.record h = some r) :
    s.Quiet (s.startStreamPoll h r) := by
  have counted := s.quiet_updEntry h (fun e => { e with attempts := e.attempts + 1, disposition := .inFlight })
    fun _ => rfl
  have selected : s.Quiet ((s.updEntry h fun e => { e with attempts := e.attempts + 1, disposition := .inFlight
      }).setRecord h (some r.selected)) :=
    counted.trans (State.quiet_setRecord (r := r) hr r.selected_claim fun hc => .inr (r.selected_state ▸ hc))
  unfold State.startStreamPoll
  dsimp only
  split
  · exact counted.trans (State.quiet_startExchange _ _ _ _ _)
  · split <;> exact selected.trans (State.quiet_startExchange _ _ _ _ _)

theorem State.quiet_passOver (s : State) : s.Quiet s.passOver := by
  unfold State.passOver
  refine State.quiet_foldl (fun t e => ?_) _ s
  split
  · exact t.quiet_excuse _
  · exact .refl t

theorem State.quiet_crowdOut (s : State) : s.Quiet s.crowdOut :=
  (s.quiet_entries s.sched.due s.sched.retry
    (fun e => if e.disposition = .waiting then { e with disposition := .unserved } else e)
    fun e => by split <;> rfl).trans (State.quiet_updTrunk _ (fun u => { u with phase := .retry }) (by rfl) (by rfl)
      (by rfl))

theorem State.quiet_dropRetries (s : State) : s.Quiet s.dropRetries :=
  s.quiet_entries _ _ _ fun e => by split <;> rfl

theorem State.quiet_retryLeft (s : State) (rest : List Handle) :
    s.Quiet { s with sched := { s.sched with retry := rest } } :=
  s.quiet_sched _ id

theorem State.quiet_turnCyclic (s : State) : s.Quiet s.turnCyclic := by
  unfold State.turnCyclic
  split
  · exact s.quiet_advance
  · split
    · exact .refl s
    · split
      · exact .refl s
      · next hr =>
        split
        · exact State.quiet_startStreamPoll hr
        · exact s.quiet_crowdOut.trans (State.quiet_advance _)

theorem State.quiet_turnRetry (s : State) : s.Quiet s.turnRetry := by
  unfold State.turnRetry
  split
  · exact s.quiet_advance
  · split
    · exact .refl s
    · split
      · exact .refl s
      · next hr =>
        split
        · exact (s.quiet_retryLeft _).trans
            (State.quiet_startStreamPoll (s := { s with sched := { s.sched with retry := _ } }) hr)
        · exact s.quiet_dropRetries.trans (State.quiet_advance _)

theorem State.quiet_toPieces (s : State) : s.Quiet s.toPieces :=
  (s.quiet_updTrunk (fun u => { u with phase := .pieces }) rfl rfl rfl).trans (State.quiet_advance _)

theorem State.quiet_startProbe (s : State) (n : Node) : s.Quiet (s.startProbe n) :=
  (s.quiet_deferred _ _ _ _).trans (State.quiet_startExchange _ _ _ _ _)

theorem State.quiet_turnProbe (s : State) : s.Quiet s.turnProbe := by
  unfold State.turnProbe
  split
  · exact s.quiet_toPieces
  · split
    · exact s.quiet_toPieces
    · split
      · exact .refl s
      · split
        · exact s.quiet_startProbe _
        · exact s.quiet_toPieces

theorem State.quiet_endAcyclic (s : State) : s.Quiet s.endAcyclic :=
  s.quiet_updTrunk (fun u => { u with phase := .over }) rfl rfl rfl

/-- The request at the head of a true queue waits. -/
theorem State.QueueTrue.waits_of_head {s : State} (hs : s.QueueTrue) {id : ReqId} {rest : List ReqId}
    (hq : s.acyclic.queue = id :: rest) : s.Waits id :=
  (hs.holds id).1 (hq ▸ List.mem_cons_self)

theorem State.quiet_startPiece {s : State} {id : ReqId} {q : Request} (hw : s.QueueTrue → s.Waits id) :
    s.Quiet (s.startPiece id q) :=
  (s.quiet_acyclic { s.acyclic with requests := s.acyclic.requests.set id.val (some { q with state := .active }) }
    fun hq => (State.quiet_setRequest_of_waits (hw hq) (.inr rfl)).queue hq).trans (State.quiet_startExchange _ _ _ _ _)

theorem State.quiet_turnPiece (s : State) : s.Quiet s.turnPiece := by
  unfold State.turnPiece
  split
  · exact s.quiet_endAcyclic
  · next hq =>
    split
    · exact s.quiet_endAcyclic
    · split
      · exact .refl s
      · split
        · exact .refl s
        · split
          · exact State.quiet_startPiece fun hs => hs.waits_of_head hq
          · exact s.quiet_endAcyclic

/-! ### The ends of exchanges -/

theorem State.quiet_placePayload (s : State) (p : Poll) (payload : List Byte) : s.Quiet (s.placePayload p payload) := by
  unfold State.placePayload
  split
  · split
    · exact s.quiet_storeBytes _ _
    · exact .refl s
  · exact s.quiet_storeBytes _ _
  · exact State.quiet_of_same rfl rfl rfl rfl rfl rfl
  · exact .refl s

theorem State.quiet_countFree (s : State) : s.Quiet { s with freeIndex := s.freeIndex + 1 } :=
  State.quiet_of_same rfl rfl rfl rfl rfl rfl

theorem State.quiet_placeArrived (s : State) : s.Quiet s.placeArrived := by
  obtain ⟨x, start, -, e⟩ | ⟨-, e⟩ := s.placeArrived_cases <;> rw [e]
  · have placed := s.quiet_placePayload x.poll (replyPayload x.poll (Config.arrivedBytes s.freeIndex))
    have counted := placed.trans (State.quiet_countFree _)
    rwa [show (s.placePayload x.poll (replyPayload x.poll (Config.arrivedBytes s.freeIndex))).freeIndex = s.freeIndex by
      simp] at counted
  · exact .refl s

theorem StreamRecord.okValues_claim (r : StreamRecord) (p : Poll) (cycle : Nat) :
    (r.okValues p cycle).claim = r.claim := by
  unfold StreamRecord.okValues
  split <;> rfl

theorem StreamRecord.okValues_state (r : StreamRecord) (p : Poll) (cycle : Nat) :
    (r.okValues p cycle).state = r.state := by
  unfold StreamRecord.okValues
  split <;> rfl

theorem State.quiet_retryOrGiveUp (s : State) (h : Handle) (r : StreamRecord) : s.Quiet (s.retryOrGiveUp h r) := by
  unfold State.retryOrGiveUp
  split
  · exact (s.quiet_setDisposition h _).trans (State.quiet_retryLeft _ _)
  · exact s.quiet_setDisposition h _

theorem State.quiet_serveRecord {s : State} {h : Handle} {r : StreamRecord} (p : Poll) (o : ExchangeOutcome)
    (hr : s.record h = some r) : s.Quiet (s.serveRecord h r p o) := by
  have kept {q : StreamRecord} (claim : q.claim = r.claim) (state : q.state = r.state) :
      s.Quiet (s.setRecord h (some q)) :=
    State.quiet_setRecord hr claim fun hc => .inr (state.symm.trans hc)
  unfold State.serveRecord
  cases o with
  | ok =>
    exact (kept (q := (r.okValues p s.trunk.cycle.toNat).countServed) (r.okValues_claim p _)
      (r.okValues_state p _)).trans (State.quiet_setDisposition _ h _)
  | duplicate =>
    exact (kept (q := r.countServed.countDuplicate) rfl rfl).trans (State.quiet_setDisposition _ h _)
  | deferred => exact (kept (q := { r with resync := false }) rfl rfl).trans (State.quiet_setDisposition _ h _)
  | refused =>
    have faulted : s.Quiet (s.setRecord h (some { r with state := .faulted, resync := false })) :=
      State.quiet_setRecord hr rfl nofun
    exact (faulted.trans (State.quiet_excuse _ h)).trans (State.quiet_raise _ _ _ _)
  | timeout => exact s.quiet_retryOrGiveUp h r
  | crcError => exact s.quiet_retryOrGiveUp h r
  | badLength => exact s.quiet_retryOrGiveUp h r
  | overlong => exact s.quiet_retryOrGiveUp h r

theorem State.keeps_serviceResult (s : State) (h : Handle) (p : Poll) (o : ExchangeOutcome) :
    s.Keeps (s.serviceResult h p o) := by
  unfold State.serviceResult
  split
  · exact .refl s
  · next r hr =>
    split
    · exact (State.quiet_serveRecord p o hr).keeps
    · next hc => exact State.keeps_endClosing hr hc
    all_goals exact .refl s

theorem State.waits_of_active {s : State} {id : ReqId} {q : Request} (hq : s.request id = some q)
    (ha : q.state = .active) : s.Waits id := ⟨q, hq, .inr ha⟩

theorem State.quiet_pieceOk {s : State} {id : ReqId} {q : Request} (n : Nat) (hq : s.request id = some q)
    (ha : q.state = .active) : s.Quiet (s.pieceOk id q n) := by
  unfold State.pieceOk
  dsimp only
  split
  · exact (s.quiet_leaveQueue_setRequest id _ fun q' e => by cases e; exact ⟨nofun, nofun⟩).trans
      (State.quiet_raise _ _ _ _)
  · exact State.quiet_setRequest_of_waits (State.waits_of_active hq ha) (.inr ha)

theorem State.quiet_pieceDeferred {s : State} {id : ReqId} {q : Request} (hq : s.request id = some q)
    (ha : q.state = .active) : s.Quiet (s.pieceDeferred id q) := by
  unfold State.pieceDeferred
  dsimp only
  split
  · exact s.quiet_failRequest _ _ _
  · have counted : s.Quiet (s.setRequest id (some { q with defers := q.defers + 1, failures := 0 })) :=
      State.quiet_setRequest_of_waits (State.waits_of_active hq ha) (.inr ha)
    exact counted.trans (State.quiet_toTail _ (State.waits_setRequest_same.2 ⟨_, rfl, .inr ha⟩))

theorem State.quiet_pieceUnanswered {s : State} {id : ReqId} {q : Request} (hq : s.request id = some q)
    (ha : q.state = .active) : s.Quiet (s.pieceUnanswered id q) := by
  unfold State.pieceUnanswered
  dsimp only
  split
  · exact s.quiet_failRequest _ _ _
  · exact State.quiet_setRequest_of_waits (State.waits_of_active hq ha) (.inr ha)

theorem State.quiet_pieceResult (s : State) (id : ReqId) (n : Nat) (o : ExchangeOutcome) :
    s.Quiet (s.pieceResult id n o) := by
  unfold State.pieceResult
  split
  · exact .refl s
  · next q hq =>
    split
    · next ha =>
      cases o with
      | ok | duplicate => exact State.quiet_pieceOk n hq ha
      | deferred => exact State.quiet_pieceDeferred hq ha
      | refused => exact s.quiet_failRequest _ _ _
      | timeout | crcError | badLength | overlong => exact State.quiet_pieceUnanswered hq ha
    · exact s.quiet_endCancelling id q
    all_goals exact .refl s

theorem State.quiet_endPiece (s : State) (id : ReqId) (k : Nat) (n : Node) (o : ExchangeOutcome) :
    s.Quiet (s.endPiece id k n o) := by
  unfold State.endPiece
  dsimp only
  split
  · split
    · exact (s.quiet_countFree.trans (State.quiet_report _ n o)).trans (State.quiet_pieceResult _ id k o)
    · exact (s.quiet_countFree.trans (State.quiet_pieceResult _ id k o)).trans (State.quiet_report _ n o)
  · exact (s.quiet_report n o).trans (State.quiet_pieceResult _ id k o)

theorem State.quiet_probeRemoved (s : State) (n : Node) : s.Quiet (s.probeRemoved n) := by
  unfold State.probeRemoved
  dsimp only
  split
  · exact (s.quiet_deferred _ _ _ _).trans (State.quiet_raiseBoth _ _)
  · exact s.quiet_deferred _ _ _ _

theorem State.quiet_endProbe (s : State) (n : Node) (o : ExchangeOutcome) : s.Quiet (s.endProbe n o) := by
  unfold State.endProbe
  dsimp only
  refine State.Quiet.trans ?_ (State.quiet_probeRemoved _ n)
  split
  · exact s.quiet_reportAnswered n _
  · exact s.quiet_reportUnansweredProbe n

theorem State.keeps_endExchange (s : State) (x : Exchange) (o : ExchangeOutcome) : s.Keeps (s.endExchange x o) := by
  have polled (h : Handle) : s.Keeps ((s.report x.node o).serviceResult h x.poll o) :=
    (s.quiet_report _ _).keeps.trans (State.keeps_serviceResult _ h _ _)
  unfold State.endExchange
  refine State.Keeps.trans ?_ (State.quiet_advance _).keeps
  split
  · exact polled _
  · exact polled _
  · exact polled _
  · exact (s.quiet_endProbe _ _).keeps
  · exact (s.quiet_endPiece _ _ _ _).keeps

/-! ### A device reset -/

theorem poolBlocks_ascending : poolBlocks.Pairwise (· < ·) :=
  List.pairwise_map.2 ((List.pairwise_lt_finRange 320).imp fun {_ _} h => h)

/-- The tables as a device reset leaves them. -/
structure State.TablesReset (t : State) : Prop where
  table : t.table = .reset
  free : t.store.free = poolBlocks
  trunk : t.trunk = .reset
  sched : t.sched = ⟨[], [], []⟩
  acyclic : t.acyclic = .reset
  roster : t.roster = Vector.replicate 62 .reset

theorem State.TablesReset.record {t : State} (ht : t.TablesReset) (h : Handle) : t.record h = none := by
  simp [State.record, ht.table, StreamTable.reset]

theorem State.TablesReset.request {t : State} (ht : t.TablesReset) (id : ReqId) : t.request id = none := by
  simp [State.request, ht.acyclic, AcyclicScheduler.reset]

theorem State.TablesReset.node {t : State} (ht : t.TablesReset) (n : Node) : t.node n = .reset := by
  simp [State.node, ht.roster]

theorem State.TablesReset.keysDistinct {t : State} (ht : t.TablesReset) : t.KeysDistinct := fun h _ _ _ hr => by
  rw [ht.record] at hr
  cases hr

theorem State.TablesReset.closingBare {t : State} (ht : t.TablesReset) : t.ClosingBare := fun h _ hr => by
  rw [ht.record] at hr
  cases hr

theorem State.TablesReset.countsTrue {t : State} (ht : t.TablesReset) : t.CountsTrue := fun n => by
  simp [State.liveAt, ht.record, ht.node, RosterEntry.reset]

theorem State.TablesReset.entriesOnce {t : State} (ht : t.TablesReset) : t.EntriesOnce := by
  simp [State.EntriesOnce, ht.sched]

theorem State.TablesReset.poolTrue {t : State} (ht : t.TablesReset) : t.PoolTrue where
  partition := by
    have unlisted : t.listedBlocks = [] := List.flatMap_eq_nil_iff.2 fun h _ => by simp [ht.record]
    rw [unlisted, ht.free, List.append_nil]
  ascending := ht.free ▸ poolBlocks_ascending
  sized h r hr := by
    rw [ht.record] at hr
    cases hr
  bare := ht.closingBare

theorem State.TablesReset.loadTrue {t : State} (ht : t.TablesReset) : t.LoadTrue where
  sums k := by simp [State.chargedAt, ht.record, ht.table, StreamTable.reset]
  within k := by simp [ht.table, StreamTable.reset]
  bare := ht.closingBare
  unstaged _ := by simp [ht.trunk, CycleUnit.reset]

theorem State.TablesReset.queueTrue {t : State} (ht : t.TablesReset) : t.QueueTrue where
  once := by simp [ht.acyclic, AcyclicScheduler.reset]
  holds id := by simp [ht.request, ht.acyclic, AcyclicScheduler.reset]

theorem stepsKeeping_deviceReset (selLowA selLowB : Bool) (s : State) :
    s.StepsKeeping (execDeviceReset selLowA selLowB s) := by
  refine State.stepsKeeping_next.2 ?_
  have reset : State.TablesReset { State.reset with
      ports := ⟨.afterReset selLowA, .afterReset selLowB⟩
      store := { State.reset.store with mem := s.placeArrived.store.mem }
      pins := ⟨s.pins.lfault, s.pins.rxBusy, none⟩
      freeIndex := s.placeArrived.freeIndex + 1
      pending := s.pending } := ⟨rfl, rfl, rfl, rfl, rfl, rfl⟩
  exact ⟨s.quiet_placeArrived.mem, fun _ => reset.keysDistinct, fun _ => reset.countsTrue, fun _ => reset.entriesOnce,
    fun _ => reset.poolTrue, fun _ => reset.loadTrue, fun _ => reset.queueTrue⟩

/-! ### The trunk events -/

theorem stepsKeeping_lfaultAsserted (s : State) : s.StepsKeeping (execLfaultAsserted s) := by
  have level : s.Quiet { s with pins := { s.pins with lfault := true } } :=
    State.quiet_of_same rfl rfl rfl rfl rfl rfl
  unfold execLfaultAsserted
  dsimp only
  split
  · exact State.stepsKeeping_of_quiet level
  · exact State.stepsKeeping_next.2 ((level.trans (State.quiet_placeArrived _)).keeps.trans (State.keeps_enterFaulted _ _))

theorem stepsKeeping_restartMarkDue (s : State) : s.StepsKeeping (execRestartMarkDue s) := by
  unfold execRestartMarkDue
  split
  · exact State.stepsKeeping_next.2 s.keeps_restartMarkFallsDue
  · exact s.stepsKeeping_self

theorem stepsKeeping_restartMarkEnd (s : State) : s.StepsKeeping (execRestartMarkEnd s) := by
  have released : s.Quiet ((s.updTrunk fun u => { u with clock := 8 }).setTx none) :=
    (s.quiet_setClock 8).trans (State.quiet_setTx _ _)
  unfold execRestartMarkEnd
  dsimp only
  split
  · split
    · exact State.stepsKeeping_of_quiet (released.trans (State.quiet_enterHalted _))
    · exact State.stepsKeeping_of_quiet released
  · exact s.stepsKeeping_self

theorem stepsKeeping_cycleMarkDue (s : State) : s.StepsKeeping (execCycleMarkDue s) := by
  unfold execCycleMarkDue
  split
  · exact s.stepsKeeping_self
  · split
    · exact State.stepsKeeping_next.2 (s.keeps_enterFaulted _)
    · exact State.stepsKeeping_next.2 s.keeps_beginCycleMark

theorem stepsKeeping_cycleMarkEnd (s : State) : s.StepsKeeping (execCycleMarkEnd s) := by
  unfold execCycleMarkEnd
  split
  · exact State.stepsKeeping_of_quiet (((s.quiet_updTrunk (fun u => { u with clock := 8, phase := .cyclic }) rfl rfl
      rfl).trans (State.quiet_setTx _ _)).trans (State.quiet_advance _))
  · exact s.stepsKeeping_self

theorem stepsKeeping_drainEnd (s : State) : s.StepsKeeping (execDrainEnd s) := by
  unfold execDrainEnd
  split
  · split
    · exact State.stepsKeeping_next.2 (s.keeps_enterFaulted _)
    · exact State.stepsKeeping_of_quiet s.quiet_enterHalted
  · exact s.stepsKeeping_self

theorem stepsKeeping_guardStart (s : State) : s.StepsKeeping (execGuardStart s) := by
  unfold execGuardStart
  split
  · exact State.stepsKeeping_of_quiet ((s.quiet_updTrunk (fun u => { u with clock := s.guardMoment, guard := true }) rfl
      rfl rfl).trans (State.quiet_advance _))
  · exact s.stepsKeeping_self

/-! ### The schedulers' turns -/

theorem stepsKeeping_firstAttemptStart (s : State) : s.StepsKeeping (execFirstAttemptStart s) := by
  unfold execFirstAttemptStart
  split
  · exact State.stepsKeeping_of_quiet (s.quiet_passOver.trans (State.quiet_turnCyclic _))
  · exact s.stepsKeeping_self

theorem stepsKeeping_retryStart (s : State) : s.StepsKeeping (execRetryStart s) := by
  unfold execRetryStart
  split
  · exact State.stepsKeeping_of_quiet (s.quiet_passOver.trans (State.quiet_turnRetry _))
  · exact s.stepsKeeping_self

theorem stepsKeeping_probeStart (s : State) : s.StepsKeeping (execProbeStart s) := by
  unfold execProbeStart
  split
  · exact State.stepsKeeping_of_quiet s.quiet_turnProbe
  · exact s.stepsKeeping_self

theorem stepsKeeping_pieceStart (s : State) : s.StepsKeeping (execPieceStart s) := by
  unfold execPieceStart
  split
  · exact State.stepsKeeping_of_quiet s.quiet_turnPiece
  · exact s.stepsKeeping_self

/-! ### The exchange events -/

theorem stepsKeeping_pollSent (s : State) : s.StepsKeeping (execPollSent s) := by
  unfold execPollSent
  split
  · split
    · exact State.stepsKeeping_of_quiet (((s.quiet_setClock _).trans (State.quiet_setEngine _ _)).trans
        (State.quiet_setTx _ _))
    · exact s.stepsKeeping_self
  all_goals exact s.stepsKeeping_self

theorem stepsKeeping_replyBegin (turnaround : Nat) (s : State) : s.StepsKeeping (execReplyBegin turnaround s) := by
  unfold execReplyBegin
  split
  · split
    · exact State.stepsKeeping_of_quiet (((s.quiet_setClock _).trans (State.quiet_setRxd _ _)).trans
        (State.quiet_setEngine _ _))
    · exact s.stepsKeeping_self
  all_goals exact s.stepsKeeping_self

theorem stepsKeeping_exchangeTimeout (s : State) : s.StepsKeeping (execExchangeTimeout s) := by
  unfold execExchangeTimeout
  split
  · split
    · exact State.stepsKeeping_next.2 (((s.quiet_setClock _).trans (State.quiet_setEngine _ _)).keeps.trans
        (State.keeps_endExchange _ _ _))
    · exact s.stepsKeeping_self
  all_goals exact s.stepsKeeping_self

theorem stepsKeeping_replyEnd (bytes : List Byte) (gaps : Nat) (s : State) :
    s.StepsKeeping (execReplyEnd bytes gaps s) := by
  unfold execReplyEnd
  split
  · dsimp only
    split
    · exact State.stepsKeeping_next.2 (((((s.quiet_setClock _).trans (State.quiet_placePayload _ _ _)).trans
        (State.quiet_setRxd _ _)).trans (State.quiet_setEngine _ _)).keeps.trans (State.keeps_endExchange _ _ _))
    · exact s.stepsKeeping_self
  all_goals exact s.stepsKeeping_self

theorem stepsKeeping_slotEndOverlong (bytes : List Byte) (s : State) :
    s.StepsKeeping (execSlotEndOverlong bytes s) := by
  unfold execSlotEndOverlong
  split
  · split
    · exact State.stepsKeeping_next.2 ((((s.quiet_setClock _).trans (State.quiet_placePayload _ _ _)).trans
        (State.quiet_setEngine _ _)).keeps.trans (State.keeps_endExchange _ _ _))
    · exact s.stepsKeeping_self
  all_goals exact s.stepsKeeping_self

theorem stepsKeeping_quietingEnd (after : Nat) (s : State) : s.StepsKeeping (execQuietingEnd after s) := by
  unfold execQuietingEnd
  split
  · split
    · exact State.stepsKeeping_of_quiet (((s.quiet_setClock _).trans (State.quiet_setRxd _ _)).trans
        (State.quiet_setEngine _ _))
    · exact s.stepsKeeping_self
  all_goals exact s.stepsKeeping_self

theorem stepsKeeping_quietingBound (s : State) : s.StepsKeeping (execQuietingBound s) := by
  unfold execQuietingBound
  split
  · split
    · exact State.stepsKeeping_next.2 (s.keeps_enterFaulted _)
    · exact s.stepsKeeping_self
  all_goals exact s.stepsKeeping_self

theorem stepsKeeping_strayBytes (elapsed : Nat) (receiving : Bool) (s : State) :
    s.StepsKeeping (execStrayBytes elapsed receiving s) := by
  unfold execStrayBytes
  dsimp only
  split
  · split
    · exact State.stepsKeeping_of_quiet (s.quiet_setRxd _)
    · split
      · exact State.stepsKeeping_of_quiet ((s.quiet_setRxd _).trans (State.quiet_setClock _ _))
      · exact s.stepsKeeping_self
  · exact s.stepsKeeping_self

/-! ### Every command -/

theorem stepsKeeping_serve (s : State) (p : Port) (name : CommandName)
    {owner : Port → List Byte → State → State × Answer} (ho : ∀ q body (u : State), u.Keeps (owner q body u).1) :
    s.StepsKeeping (.next (s.serve p name owner)) :=
  State.stepsKeeping_next.2 (s.keeps_serve p name ho)

theorem State.keeps_of_unchanged {s t : State} (h : t = s) : s.Keeps t := h ▸ .refl s

theorem exec_stepsKeeping (i : Instr) (s : State) : s.StepsKeeping (exec i s) := by
  cases i with
  | openStream p => exact stepsKeeping_serve s p _ keeps_ownOpenStream
  | amendStream p => exact stepsKeeping_serve s p _ keeps_ownAmendStream
  | closeStream p => exact stepsKeeping_serve s p _ keeps_ownCloseStream
  | readStream p => exact stepsKeeping_serve s p _ keeps_ownReadStream
  | findStream p => exact stepsKeeping_serve s p _ fun q b u => State.keeps_of_unchanged (ownFindStream_unchanged q b u)
  | postValue p => exact stepsKeeping_serve s p _ keeps_ownPostValue
  | renewLeases p => exact stepsKeeping_serve s p _ keeps_ownRenewLeases
  | restartStream p => exact stepsKeeping_serve s p _ keeps_ownRestartStream
  | readLoad p => exact stepsKeeping_serve s p _ fun q b u => State.keeps_of_unchanged (ownReadLoad_unchanged q b u)
  | sendRequest p => exact stepsKeeping_serve s p _ keeps_ownSendRequest
  | fetchRequest p => exact stepsKeeping_serve s p _ keeps_ownFetchRequest
  | cancelRequest p => exact stepsKeeping_serve s p _ keeps_ownCancelRequest
  | readNode p => exact stepsKeeping_serve s p _ fun q b u => State.keeps_of_unchanged (ownReadNode_unchanged q b u)
  | scanNodes p => exact stepsKeeping_serve s p _ keeps_ownScanNodes
  | startTrunk p lfault => exact stepsKeeping_serve s p _ (keeps_ownStartTrunk lfault)
  | haltTrunk p => exact stepsKeeping_serve s p _ keeps_ownHaltTrunk
  | setConfig p => exact stepsKeeping_serve s p _ keeps_ownSetConfig
  | readConfig p => exact stepsKeeping_serve s p _ fun q b u => State.keeps_of_unchanged (ownReadConfig_unchanged q b u)
  | readAttn p => exact stepsKeeping_serve s p _ keeps_ownReadAttn
  | setAttnMask p => exact stepsKeeping_serve s p _ keeps_ownSetAttnMask
  | badCommand p => exact stepsKeeping_badCommand p s
  | commandTransaction p sent => exact stepsKeeping_commandTransaction p sent s
  | resultTransaction p clocked => exact stepsKeeping_resultTransaction p clocked s
  | portReset p sent => exact stepsKeeping_portReset p sent s
  | transactionNotTaken p sent => exact stepsKeeping_transactionNotTaken p sent s
  | deviceReset selLowA selLowB => exact stepsKeeping_deviceReset selLowA selLowB s
  | lfaultAsserted => exact stepsKeeping_lfaultAsserted s
  | restartMarkDue => exact stepsKeeping_restartMarkDue s
  | restartMarkEnd => exact stepsKeeping_restartMarkEnd s
  | cycleMarkDue => exact stepsKeeping_cycleMarkDue s
  | cycleMarkEnd => exact stepsKeeping_cycleMarkEnd s
  | drainEnd => exact stepsKeeping_drainEnd s
  | guardStart => exact stepsKeeping_guardStart s
  | leaseExpiry h => exact State.stepsKeeping_next.2 (s.keeps_expireLease h)
  | firstAttemptStart => exact stepsKeeping_firstAttemptStart s
  | retryStart => exact stepsKeeping_retryStart s
  | probeStart => exact stepsKeeping_probeStart s
  | pieceStart => exact stepsKeeping_pieceStart s
  | pollSent => exact stepsKeeping_pollSent s
  | replyBegin turnaround => exact stepsKeeping_replyBegin turnaround s
  | exchangeTimeout => exact stepsKeeping_exchangeTimeout s
  | replyEnd bytes gaps => exact stepsKeeping_replyEnd bytes gaps s
  | slotEndOverlong bytes => exact stepsKeeping_slotEndOverlong bytes s
  | quietingEnd after => exact stepsKeeping_quietingEnd after s
  | quietingBound => exact stepsKeeping_quietingBound s
  | selFalls p => exact stepsKeeping_selFalls p s
  | kindByteWhole p => exact stepsKeeping_kindByteWhole p s
  | strayBytes elapsed receiving => exact stepsKeeping_strayBytes elapsed receiving s

/-! ### The obligations -/

/-- A step that takes no command changes nothing; another runs its command on the state without it. -/
theorem step_cases {s t : State} (h : step s = .next t) :
    t = s ∨ ∃ c rest, s.pending = c :: rest ∧ exec c { s with pending := rest } = .next t := by
  unfold step at h
  split at h
  · exact .inl (by cases h; rfl)
  · next c rest hp => exact .inr ⟨c, rest, hp, h⟩

theorem step_keeps {s t : State} (h : step s = .next t) : s.Keeps t := by
  obtain rfl | ⟨c, rest, -, hc⟩ := step_cases h
  · exact .refl _
  · have queued : s.Quiet { s with pending := rest } := State.quiet_of_same rfl rfl rfl rfl rfl rfl
    exact queued.keeps.trans (exec_stepsKeeping c _ t hc)

/-- Settles O5: bytes reach the memory through `Memory.write` alone, which keeps the form. -/
theorem stepKeepsMemoryCanonical : Obligations.StepKeepsMemoryCanonical := fun _ _ hs h => (step_keeps h).mem hs

/-- Settles O6: a record is made only with a free key and counted at its node, and the due list names no record twice. -/
theorem stepKeepsKeysAndCounts : Obligations.StepKeepsKeysAndCounts :=
  ⟨fun _ _ hs h => (step_keeps h).keys hs, fun _ _ hs h => (step_keeps h).counts hs,
    fun _ _ hs h => (step_keeps h).entries hs⟩

/-- Settles O7: blocks pass between the free set and the block lists of records and amendments alone. -/
theorem stepKeepsBlockPartition : Obligations.StepKeepsBlockPartition := fun _ _ hs h => (step_keeps h).pool hs

/-- Settles O8: every charge enters and leaves the Load Map with its record or amendment, and an admitted one fits. -/
theorem stepKeepsLoadMap : Obligations.StepKeepsLoadMap := fun _ _ hs h => (step_keeps h).load hs

/-- Settles O9: a request joins the queue when it is made and leaves it when it stops being QUEUED or ACTIVE. -/
theorem stepKeepsQueue : Obligations.StepKeepsQueue := fun _ _ hs h => (step_keeps h).queue hs

end Sys2Proof.Machine
end

section
/-! PROOFS. What a step keeps between the exchange in flight, the commands in hand and the leases. `State.Still` says
what an operation within a cycle leaves as it is, `State.Calm` that it also keeps the leases; each is proved of the
shared operations once, in the order of the model. -/

namespace Sys2Proof.Machine

/-! ### What an exchange serves -/

/-- The exchange, if there is one, is the record's. -/
def servesRecord (f : Option Exchange) (h : Handle) : Bool := f.any fun x => x.poll.handle? == some h

/-- The exchange, if there is one, is the request's. -/
def servesRequest (f : Option Exchange) (id : ReqId) : Bool := f.any fun x => x.poll.reqId? == some id

theorem State.recordInFlight_eq (s : State) (h : Handle) :
    s.recordInFlight h = servesRecord s.engine.state.inFlight h := by
  unfold State.recordInFlight
  cases s.engine.state.inFlight <;> rfl

theorem State.requestInFlight_eq (s : State) (id : ReqId) :
    s.requestInFlight id = servesRequest s.engine.state.inFlight id := by
  unfold State.requestInFlight
  cases s.engine.state.inFlight <;> rfl

/-! ### CLOSING records, CANCELLING requests, leases -/

/-- The record at a handle is CLOSING. -/
def State.Closing (s : State) (h : Handle) : Prop := ∃ r, s.record h = some r ∧ r.state = .closing

/-- The request at an id is CANCELLING. -/
def State.Cancelling (s : State) (id : ReqId) : Prop := ∃ q, s.request id = some q ∧ q.state = .cancelling

/-- A record's lease and its pending amendment's are in their ranges. -/
structure StreamRecord.LeaseOk (r : StreamRecord) : Prop where
  pair : leasePair r.params.lease r.leaseRemaining
  amended : ∀ am l, r.amendment = some am → am.params.lease = some l → 16 ≤ l ∧ l ≤ 65535

/-- Leases are in their ranges, and a CLOSING record is the exchange's. -/
structure State.LeasesFor (f : Option Exchange) (s : State) : Prop where
  leases : ∀ h r, s.record h = some r → r.LeaseOk
  closing : ∀ h, s.Closing h → servesRecord f h = true

theorem State.leasesSound_iff {s : State} : s.LeasesSound ↔ s.LeasesFor s.engine.state.inFlight :=
  ⟨fun h => ⟨fun k r hr => ⟨h.pair k r hr, fun am l => h.amended k r am l hr⟩, fun k ⟨r, hr, hc⟩ =>
      s.recordInFlight_eq k ▸ h.closing k r hr hc⟩,
    fun h => ⟨fun k r hr => (h.leases k r hr).pair, fun k r am l hr => (h.leases k r hr).amended am l,
      fun k r hr hc => s.recordInFlight_eq k ▸ h.closing k ⟨r, hr, hc⟩⟩⟩

/-- A command parked so waits for the exchange: its record is CLOSING, or its request CANCELLING. -/
def State.AwaitsFor (f : Option Exchange) (s : State) : ParkKind → Prop
  | .close h _ => servesRecord f h = true ∧ s.Closing h
  | .cancel id => servesRequest f id = true ∧ s.Cancelling id

/-- The parked command waits for the exchange. -/
def State.ParkedFor (f : Option Exchange) (s : State) : Prop := ∀ k, s.arbiter.parked = some k → s.AwaitsFor f k.kind

theorem State.parkedSound_iff {s : State} : s.ParkedSound ↔ s.ParkedFor s.engine.state.inFlight := by
  unfold State.ParkedSound State.ParkedFor State.AwaitsFor
  cases s.arbiter.parked with
  | none => simp
  | some k =>
    cases hk : k.kind <;>
      simp [hk, State.recordInFlight_eq, State.requestInFlight_eq, State.Closing, State.Cancelling]

/-! ### Still and calm -/

/-- `t` differs from `s` in nothing that an exchange in flight, a parked command or a port's state turns on. -/
structure State.Still (s t : State) : Prop where
  pending : t.pending = s.pending
  engine : t.engine.state = s.engine.state
  state : t.trunk.state = s.trunk.state
  applied : t.trunk.applied = s.trunk.applied
  staged : t.trunk.staged = s.trunk.staged
  timer : t.trunk.timer = s.trunk.timer
  phase : s.engine.state.inFlight = none ∨ t.trunk.phase = s.trunk.phase
  ports : t.ports = s.ports
  arbiter : t.arbiter = s.arbiter
  closing : ∀ h, s.Closing h → t.Closing h
  cancelling : ∀ id, s.Cancelling id → t.Cancelling id

/-- The leases stay in their ranges, and no record becomes CLOSING but the one in flight. -/
def State.KeepsLeases (s t : State) : Prop :=
  ∀ f, (∀ h, s.recordInFlight h = true → servesRecord f h = true) → s.LeasesFor f → t.LeasesFor f

/-- Still, and the leases are kept. -/
structure State.Calm (s t : State) : Prop extends s.Still t where
  leases : s.KeepsLeases t

theorem State.Still.refl (s : State) : s.Still s :=
  ⟨rfl, rfl, rfl, rfl, rfl, rfl, .inr rfl, rfl, rfl, fun _ => id, fun _ => id⟩

theorem State.Still.trans {s t u : State} (h : s.Still t) (k : t.Still u) : s.Still u where
  pending := k.pending.trans h.pending
  engine := k.engine.trans h.engine
  state := k.state.trans h.state
  applied := k.applied.trans h.applied
  staged := k.staged.trans h.staged
  timer := k.timer.trans h.timer
  phase := by
    obtain hp | hp := h.phase
    · exact .inl hp
    · have kp := k.phase
      rw [h.engine] at kp
      exact kp.imp_right fun e => e.trans hp
  ports := k.ports.trans h.ports
  arbiter := k.arbiter.trans h.arbiter
  closing l := k.closing l ∘ h.closing l
  cancelling l := k.cancelling l ∘ h.cancelling l

theorem State.Still.recordInFlight {s t : State} (h : s.Still t) (k : Handle) :
    t.recordInFlight k = s.recordInFlight k := by
  rw [State.recordInFlight_eq, State.recordInFlight_eq, h.engine]

theorem State.Calm.refl (s : State) : s.Calm s := ⟨.refl s, fun _ _ => id⟩

theorem State.Calm.trans {s t u : State} (h : s.Calm t) (k : t.Calm u) : s.Calm u :=
  ⟨h.toStill.trans k.toStill, fun f hf hs =>
    k.leases f (fun l hl => hf l (h.recordInFlight l ▸ hl)) (h.leases f hf hs)⟩

theorem State.calm_foldl {α : Type} {f : State → α → State} (h : ∀ (s : State) a, s.Calm (f s a)) (l : List α)
    (s : State) : s.Calm (l.foldl f s) := by
  induction l generalizing s with
  | nil => exact .refl s
  | cons a l ih => exact (h s a).trans (ih (f s a))

theorem State.still_foldl {α : Type} {f : State → α → State} (h : ∀ (s : State) a, s.Still (f s a)) (l : List α)
    (s : State) : s.Still (l.foldl f s) := by
  induction l generalizing s with
  | nil => exact .refl s
  | cons a l ih => exact (h s a).trans (ih (f s a))

/-! ### Operations on one part -/

/-- Nothing but the records and the parts that no one waits for changes. -/
structure State.Apart (s t : State) : Prop where
  pending : t.pending = s.pending
  engine : t.engine.state = s.engine.state
  trunk : t.trunk = s.trunk
  ports : t.ports = s.ports
  arbiter : t.arbiter = s.arbiter
  requests : t.acyclic.requests = s.acyclic.requests

theorem State.Apart.still {s t : State} (h : s.Apart t) (closing : ∀ k, s.Closing k → t.Closing k) : s.Still t where
  pending := h.pending
  engine := h.engine
  state := by rw [h.trunk]
  applied := by rw [h.trunk]
  staged := by rw [h.trunk]
  timer := by rw [h.trunk]
  phase := .inr (by rw [h.trunk])
  ports := h.ports
  arbiter := h.arbiter
  closing := closing
  cancelling id := by simp only [State.Cancelling, State.request, h.requests]; exact fun hc => hc

/-- The records stay too. -/
theorem State.Apart.calm {s t : State} (h : s.Apart t) (records : t.table.records = s.table.records) : s.Calm t where
  toStill := h.still fun k => by simp only [State.Closing, State.record, records]; exact id
  leases f _ hs := ⟨fun k r => by simpa only [State.record, records] using hs.leases k r,
    fun k => by simpa only [State.Closing, State.record, records] using hs.closing k⟩

theorem State.Apart.closing_of_replaced {s t : State} {h : Handle} {o : Option StreamRecord}
    (hr : s.Replaced h o t) (closing : s.Closing h → ∃ q, o = some q ∧ q.state = .closing) (k : Handle)
    (hk : s.Closing k) : t.Closing k := by
  by_cases e : k = h
  · subst e
    obtain ⟨q, rfl, hq⟩ := closing hk
    exact ⟨q, hr.1, hq⟩
  · obtain ⟨q, hq, hc⟩ := hk
    exact ⟨q, (hr.2 k e).trans hq, hc⟩

/-- The record at one handle is replaced. -/
theorem State.Apart.calm_of_replaced {s t : State} {h : Handle} {o : Option StreamRecord} (ha : s.Apart t)
    (hr : s.Replaced h o t) (closing : s.Closing h → ∃ q, o = some q ∧ q.state = .closing)
    (lease : ∀ q, o = some q → (∀ r, s.record h = some r → r.LeaseOk) → q.LeaseOk)
    (closes : ∀ q, o = some q → q.state = .closing → s.Closing h ∨ s.recordInFlight h = true) : s.Calm t where
  toStill := ha.still (State.Apart.closing_of_replaced hr closing)
  leases f hf hs := by
    refine ⟨fun k q hq => ?_, fun k ⟨q, hq, hc⟩ => ?_⟩
    · by_cases e : k = h
      · subst e
        exact lease q (hr.1.symm.trans hq) fun r hr => hs.leases k r hr
      · exact hs.leases k q ((hr.2 k e).symm.trans hq)
    · by_cases e : k = h
      · subst e
        exact (closes q (hr.1.symm.trans hq) hc).elim (hs.closing k) (hf k)
      · exact hs.closing k ⟨q, (hr.2 k e).symm.trans hq, hc⟩

theorem State.replaced_setRecord (s : State) (h : Handle) (o : Option StreamRecord) :
    s.Replaced h o (s.setRecord h o) :=
  ⟨s.record_setRecord_same h o, fun k hk => s.record_setRecord_other h k o hk⟩

/-- What a record's leases turn on. -/
theorem StreamRecord.LeaseOk.of_eq {r q : StreamRecord} (params : q.params = r.params)
    (remaining : q.leaseRemaining = r.leaseRemaining) (amendment : q.amendment = r.amendment ∨ q.amendment = none)
    (hr : r.LeaseOk) : q.LeaseOk where
  pair := by rw [params, remaining]; exact hr.pair
  amended am l ha := by
    obtain e | e := amendment
    · exact hr.amended am l (e ▸ ha)
    · rw [e] at ha
      cases ha

theorem State.closing_iff_of_record {s : State} {h : Handle} {r : StreamRecord} (hr : s.record h = some r) :
    s.Closing h ↔ r.state = .closing :=
  ⟨fun ⟨q, hq, hc⟩ => by cases hr.symm.trans hq; exact hc, fun hc => ⟨r, hr, hc⟩⟩

theorem State.cancelling_iff_of_request {s : State} {id : ReqId} {q : Request} (hq : s.request id = some q) :
    s.Cancelling id ↔ q.state = .cancelling :=
  ⟨fun ⟨q', hq', hc⟩ => by cases hq.symm.trans hq'; exact hc, fun hc => ⟨q, hq, hc⟩⟩

/-- A live record changed in neither its leases nor whether it is CLOSING. -/
theorem State.calm_setRecord {s : State} {h : Handle} {r q : StreamRecord} (hr : s.record h = some r)
    (params : q.params = r.params) (remaining : q.leaseRemaining = r.leaseRemaining)
    (amendment : q.amendment = r.amendment ∨ q.amendment = none) (closing : q.state = .closing ↔ r.state = .closing) :
    s.Calm (s.setRecord h (some q)) :=
  State.Apart.calm_of_replaced ⟨rfl, rfl, rfl, rfl, rfl, rfl⟩ (s.replaced_setRecord h (some q))
    (fun hc => ⟨q, rfl, closing.2 ((State.closing_iff_of_record hr).1 hc)⟩)
    (fun q' e hs => by cases e; exact (hs r hr).of_eq params remaining amendment)
    (fun q' e hc => by cases e; exact .inl ((State.closing_iff_of_record hr).2 (closing.1 hc)))

/-- Every live record changed alike, none in its leases or in whether it is CLOSING. -/
theorem State.calm_of_mapRecords {s t : State} (ha : s.Apart t) (f : StreamRecord → StreamRecord)
    (records : t.table.records = s.table.records.map fun o => o.map f) (lease : ∀ r, r.LeaseOk → (f r).LeaseOk)
    (state : ∀ r, (f r).state = r.state) : s.Calm t := by
  have mapped (h : Handle) : t.record h = (s.record h).map f := by simp [State.record, records]
  refine ⟨ha.still fun h ⟨r, hr, hc⟩ => ⟨f r, by rw [mapped, hr]; rfl, (state r).trans hc⟩, fun g _ hs => ⟨?_, ?_⟩⟩
  · intro h q hq
    rw [mapped] at hq
    obtain ⟨r, hr, rfl⟩ := Option.map_eq_some_iff.1 hq
    exact lease r (hs.leases h r hr)
  · rintro h ⟨q, hq, hc⟩
    rw [mapped] at hq
    obtain ⟨r, hr, rfl⟩ := Option.map_eq_some_iff.1 hq
    exact hs.closing h ⟨r, hr, (state r).symm.trans hc⟩

/-- Requests changed, no CANCELLING one out of it. -/
theorem State.calm_acyclic (s : State) (a : AcyclicScheduler)
    (cancelling : ∀ id, s.Cancelling id → ({ s with acyclic := a } : State).Cancelling id) :
    s.Calm { s with acyclic := a } where
  pending := rfl
  engine := rfl
  state := rfl
  applied := rfl
  staged := rfl
  timer := rfl
  phase := .inr rfl
  ports := rfl
  arbiter := rfl
  closing _ := id
  cancelling := cancelling
  leases _ _ h := ⟨h.leases, h.closing⟩

/-- A request that is not CANCELLING replaced. -/
theorem State.calm_setRequest (s : State) (id : ReqId) (o : Option Request) (free : ¬s.Cancelling id) :
    s.Calm (s.setRequest id o) :=
  s.calm_acyclic _ fun k hk => by
    have other : k ≠ id := fun e => free (e ▸ hk)
    obtain ⟨q, hq, hc⟩ := hk
    exact ⟨q, (s.request_setRequest_other id k o other).trans hq, hc⟩

theorem State.calm_lists (s : State) (queue deferred : List ReqId) (probes : List Node) (pending : Bool) (run : Nat) :
    s.Calm { s with acyclic := ⟨s.acyclic.requests, queue, deferred, probes, pending, run⟩ } :=
  s.calm_acyclic _ fun _ => id

theorem State.calm_leaveQueue (s : State) (id : ReqId) : s.Calm (s.leaveQueue id) := s.calm_lists _ _ _ _ _

/-- The Cycle Unit moves on within its cycle. -/
theorem State.calm_updTrunk (s : State) (f : CycleUnit → CycleUnit) (state : (f s.trunk).state = s.trunk.state)
    (applied : (f s.trunk).applied = s.trunk.applied) (staged : (f s.trunk).staged = s.trunk.staged)
    (timer : (f s.trunk).timer = s.trunk.timer)
    (phase : s.engine.state.inFlight = none ∨ (f s.trunk).phase = s.trunk.phase) : s.Calm (s.updTrunk f) where
  pending := rfl
  engine := rfl
  state := state
  applied := applied
  staged := staged
  timer := timer
  phase := phase
  ports := rfl
  arbiter := rfl
  closing _ := id
  cancelling _ := id
  leases _ _ h := ⟨h.leases, h.closing⟩

theorem State.calm_raise (s : State) (p : Port) (src : Source) (r : Reason) : s.Calm (s.raise p src r) :=
  State.Apart.calm ⟨rfl, rfl, rfl, rfl, rfl, rfl⟩ rfl

theorem State.calm_raiseBoth (s : State) (r : Reason) : s.Calm (s.raiseBoth r) :=
  State.Apart.calm ⟨rfl, rfl, rfl, rfl, rfl, rfl⟩ rfl

theorem State.calm_excuse (s : State) (h : Handle) : s.Calm (s.excuse h) :=
  State.Apart.calm ⟨rfl, rfl, rfl, rfl, rfl, rfl⟩ rfl

theorem State.calm_sched (s : State) (c : CyclicScheduler) : s.Calm { s with sched := c } :=
  State.Apart.calm ⟨rfl, rfl, rfl, rfl, rfl, rfl⟩ rfl

theorem State.calm_setNode (s : State) (n : Node) (e : RosterEntry) : s.Calm (s.setNode n e) :=
  State.Apart.calm ⟨rfl, rfl, rfl, rfl, rfl, rfl⟩ rfl

theorem State.calm_setTx (s : State) (tx : Option (List Byte)) : s.Calm (s.setTx tx) :=
  State.Apart.calm ⟨rfl, rfl, rfl, rfl, rfl, rfl⟩ rfl

theorem State.calm_setRxd (s : State) (b : Bool) : s.Calm (s.setRxd b) :=
  State.Apart.calm ⟨rfl, rfl, rfl, rfl, rfl, rfl⟩ rfl

theorem State.calm_storeBytes (s : State) (addrs : List Nat) (values : List Byte) : s.Calm (s.storeBytes addrs values) :=
  State.Apart.calm ⟨rfl, rfl, rfl, rfl, rfl, rfl⟩ rfl

theorem State.calm_setClock (s : State) (m : Nat) : s.Calm (s.setClock m) :=
  s.calm_updTrunk _ rfl rfl rfl rfl (.inr rfl)

theorem State.calm_countFree (s : State) : s.Calm { s with freeIndex := s.freeIndex + 1 } :=
  State.Apart.calm ⟨rfl, rfl, rfl, rfl, rfl, rfl⟩ rfl

/-! ### Records and requests leaving -/

/-- A record that is not CLOSING freed. -/
theorem State.calm_freeRecord {s : State} {h : Handle} {r : StreamRecord} (hc : ¬s.Closing h) :
    s.Calm (s.freeRecord h r) :=
  State.Apart.calm_of_replaced ⟨by simp, by simp, by simp, by simp, by simp, by simp⟩ (s.replaced_freeRecord h r)
    (fun h => absurd h hc) (fun q e => by cases e) (fun q e => by cases e)

theorem State.calm_dropAmendment {s : State} {h : Handle} {r : StreamRecord} (hr : s.record h = some r) :
    s.Calm (s.dropAmendment h r) :=
  State.Apart.calm_of_replaced ⟨by simp, by simp, by simp, by simp, by simp, by simp⟩ (State.replaced_dropAmendment hr)
    (fun hc => ⟨_, rfl, (State.closing_iff_of_record hr).1 hc⟩)
    (fun q e hs => by cases e; exact (hs r hr).of_eq (by rfl) (by rfl) (.inr (by rfl)))
    (fun q e hc => by cases e; exact .inl ((State.closing_iff_of_record hr).2 hc))

theorem State.calm_retire {s : State} {h : Handle} {r : StreamRecord} (hr : s.record h = some r) :
    s.Calm (s.retire h r) := by
  have dropped := State.record_dropAmendment hr
  obtain ⟨-, e⟩ | ⟨hc, hf, e⟩ | ⟨hc, -, e⟩ := s.retire_cases h r <;> rw [e]
  · exact .refl s
  · refine ((State.calm_dropAmendment hr).trans ?_).trans (State.calm_excuse _ h)
    exact State.Apart.calm_of_replaced ⟨rfl, rfl, rfl, rfl, rfl, rfl⟩ (State.replaced_setRecord _ h _)
      (fun _ => ⟨_, rfl, rfl⟩) (fun q e hs => by cases e; exact (hs _ dropped).of_eq (by rfl) (by rfl) (.inr (by rfl)))
      (fun q e _ => .inr (((State.calm_dropAmendment hr).recordInFlight h).trans hf))
  · exact (State.calm_dropAmendment hr).trans
      (State.calm_freeRecord fun h => hc ((State.closing_iff_of_record dropped).1 h))

theorem State.not_cancelling_leaveQueue {s : State} {id : ReqId} (h : ¬s.Cancelling id) :
    ¬(s.leaveQueue id).Cancelling id := h

theorem State.calm_freeRequest {s : State} {id : ReqId} (hc : ¬s.Cancelling id) : s.Calm (s.freeRequest id) :=
  (s.calm_leaveQueue id).trans (State.calm_setRequest _ id none (State.not_cancelling_leaveQueue hc))

theorem State.calm_failRequest {s : State} {id : ReqId} (q : Request) (why : FailReason) (hc : ¬s.Cancelling id) :
    s.Calm (s.failRequest id q why) :=
  ((s.calm_leaveQueue id).trans (State.calm_setRequest _ id _ (State.not_cancelling_leaveQueue hc))).trans
    (State.calm_raise _ _ _ _)

theorem State.calm_cancel {s : State} {id : ReqId} {q : Request} (hq : s.request id = some q) :
    s.Calm (s.cancel id q) := by
  obtain ⟨-, e⟩ | ⟨ha, -, e⟩ | ⟨hc, -, e⟩ := s.cancel_cases id q <;> rw [e]
  · exact .refl s
  · have free : ¬s.Cancelling id := fun h => by simp [(State.cancelling_iff_of_request hq).1 h] at ha
    exact (s.calm_leaveQueue id).trans (State.calm_setRequest _ id _ (State.not_cancelling_leaveQueue free))
  · exact State.calm_freeRequest fun h => hc ((State.cancelling_iff_of_request hq).1 h)

/-! ### Reports to the roster -/

theorem State.calm_suspendRecord (n : Node) (s : State) (h : Handle) : s.Calm (State.suspendRecord n s h) := by
  unfold State.suspendRecord
  split
  · exact .refl s
  · next r hr =>
    split
    · next hn =>
      exact ((State.calm_setRecord hr (by rfl) (by rfl) (.inl (by rfl)) (by simp [hn.2])).trans
        (State.calm_excuse _ h)).trans (State.calm_raise _ _ _ _)
    · exact .refl s

theorem State.calm_resumeRecord (n : Node) (s : State) (h : Handle) : s.Calm (State.resumeRecord n s h) := by
  unfold State.resumeRecord
  split
  · exact .refl s
  · next r hr =>
    split
    · next hn =>
      exact (State.calm_setRecord hr (by rfl) (by rfl) (.inl (by rfl)) (by simp [hn.2])).trans
        (State.calm_raise _ _ _ _)
    · exact .refl s

theorem State.calm_loseRequest (n : Node) (s : State) (id : ReqId) : s.Calm (State.loseRequest n s id) := by
  unfold State.loseRequest
  split
  · exact .refl s
  · next q hq =>
    split
    · next hn =>
      refine State.calm_failRequest q _ fun hc => ?_
      simp [(State.cancelling_iff_of_request hq).1 hc] at hn
    · exact .refl s

theorem State.calm_nodeLost (s : State) (n : Node) : s.Calm (s.nodeLost n) :=
  (State.calm_foldl (State.calm_suspendRecord n) handles s).trans
    (State.calm_foldl (State.calm_loseRequest n) reqIds _)

theorem State.calm_reportAnswered (s : State) (n : Node) (i : Option Identity) : s.Calm (s.reportAnswered n i) := by
  have entered := s.calm_setNode n ⟨.present, i.or (s.node n).identity, 0, (s.node n).streams⟩
  unfold State.reportAnswered
  dsimp only
  split
  · refine State.Calm.trans ?_ (State.calm_foldl (State.calm_resumeRecord n) handles _)
    split
    · exact entered
    · exact entered.trans (State.calm_raiseBoth _ _)
  · split
    · exact entered
    · exact entered.trans (State.calm_raiseBoth _ _)

theorem State.calm_reportUnanswered (s : State) (n : Node) : s.Calm (s.reportUnanswered n) := by
  unfold State.reportUnanswered
  dsimp only
  split
  · exact ((s.calm_setNode n _).trans (State.calm_raiseBoth _ _)).trans (State.calm_nodeLost _ n)
  · exact s.calm_setNode n _

theorem State.calm_reportUnansweredProbe (s : State) (n : Node) : s.Calm (s.reportUnansweredProbe n) := by
  unfold State.reportUnansweredProbe
  dsimp only
  split
  · exact (s.calm_setNode n _).trans (State.calm_raiseBoth _ _)
  · exact .refl s

theorem State.calm_report (s : State) (n : Node) (o : ExchangeOutcome) : s.Calm (s.report n o) := by
  unfold State.report
  split
  · exact s.calm_reportAnswered n none
  · exact s.calm_reportUnanswered n

/-! ### The phases of a cycle -/

theorem State.calm_countMiss (s : State) (h : Handle) : s.Calm (s.countMiss h) := by
  unfold State.countMiss
  split
  · exact .refl s
  · next r hr =>
    split
    · have counted : s.Calm (s.setRecord h (some { r with counters := { r.counters with
          missed := satInc r.counters.missed, consecutive := satInc r.counters.consecutive } })) :=
        State.calm_setRecord hr rfl rfl (.inl rfl) Iff.rfl
      dsimp only
      split
      · exact counted.trans (State.calm_raise _ _ _ _)
      · exact counted
    · exact .refl s

theorem State.calm_settle (s : State) : s.Calm s.settle :=
  State.calm_foldl (fun t e => by
    split
    · exact t.calm_countMiss _
    · exact .refl t) _ s

theorem State.calm_advance (s : State) : s.Calm s.advance := by
  unfold State.advance
  split
  · exact .refl s
  · next hf =>
    have phase {t : State} (ht : t.engine.state = s.engine.state) (ph : Phase) :
        t.Calm (t.updTrunk fun u => { u with phase := ph }) :=
      t.calm_updTrunk _ rfl rfl rfl rfl (.inl (ht ▸ hf))
    have cyclic : s.Calm s.endCyclic := by
      unfold State.endCyclic
      split
      · exact phase rfl _
      · exact .refl s
    have retry : s.endCyclic.Calm s.endCyclic.endRetry := by
      unfold State.endRetry
      split
      · exact ((State.calm_settle _).trans (phase (by simp) .probes)).trans (State.calm_lists _ _ _ _ _ _)
      · exact .refl _
    have probes : s.endCyclic.endRetry.Calm s.endCyclic.endRetry.endProbes := by
      rw [State.endProbes]
      split
      · exact phase (by simp) _
      · exact .refl _
    have pieces : s.endCyclic.endRetry.endProbes.Calm s.endCyclic.endRetry.endProbes.endPieces := by
      rw [State.endPieces]
      split
      · exact phase (by simp) _
      · exact .refl _
    exact ((cyclic.trans retry).trans probes).trans pieces

end Sys2Proof.Machine
end

section
/-! PROOFS. `State.SoundStep`: what every command leaves of the queue, the exchange in flight, the leases and the ports.
The general lemmas: a calm operation is a sound step, an exchange that ends takes its CLOSING record, its CANCELLING
request and its parked command with it, and an owner that answers or parks delivers soundly. -/

namespace Sys2Proof.Machine

/-! ### The commands in hand -/

/-- Every port's commands in hand, one more for a port whose command an owner has, agree with its state; a held result
that is being shown stands in its holder. -/
structure State.HandsTrue (c : Option Port) (s : State) : Prop where
  hand : ∀ p, s.inHand p + (if c = some p then 1 else 0) = if (s.ports.get p).state = .working then 1 else 0
  shown : ∀ p status frame, (s.ports.get p).txn = .active status (some (true, frame)) →
    (s.ports.get p).state = .resultReady frame

/-- The ports and the parked command, for an exchange and a command that an owner has. -/
structure State.PortsFor (f : Option Exchange) (c : Option Port) (s : State) : Prop where
  hands : s.HandsTrue c
  parked : s.ParkedFor f

theorem State.portsSound_iff {s : State} : s.PortsSound ↔ s.PortsFor s.engine.state.inFlight none :=
  ⟨fun h => ⟨⟨h.hand, h.shown⟩, State.parkedSound_iff.1 h.parked⟩,
    fun h => ⟨h.hands.hand, h.hands.shown, State.parkedSound_iff.2 h.parked⟩⟩

/-- What every command leaves of the queue, the exchange in flight, the leases and the ports. -/
structure State.SoundStep (s t : State) : Prop where
  pending : t.pending = s.pending
  flight : s.FlightSound → t.FlightSound
  leases : s.FlightSound → s.LeasesFor s.engine.state.inFlight → t.LeasesFor t.engine.state.inFlight
  ports : ∀ c, s.PortsFor s.engine.state.inFlight c → t.PortsFor t.engine.state.inFlight c

theorem State.SoundStep.trans {s t u : State} (h : s.SoundStep t) (k : t.SoundStep u) : s.SoundStep u :=
  ⟨k.pending.trans h.pending, k.flight ∘ h.flight, fun hf hl => k.leases (h.flight hf) (h.leases hf hl),
    fun c hp => k.ports c (h.ports c hp)⟩

theorem State.SoundStep.refl (s : State) : s.SoundStep s := ⟨rfl, id, fun _ => id, fun _ => id⟩

/-! ### Still steps -/

theorem State.inCycle_of_state {s t : State} (h : t.trunk.state = s.trunk.state) : t.inCycle = s.inCycle := by
  simp only [State.inCycle, h]

theorem CycleUnit.ConfigInTable.of_eq {u v : CycleUnit} (applied : v.applied = u.applied) (staged : v.staged = u.staged)
    (h : u.ConfigInTable) : v.ConfigInTable := by
  constructor
  · exact applied ▸ h.applied
  · exact applied ▸ h.window
  · exact applied ▸ h.threshold
  · exact applied ▸ h.interval
  · exact staged ▸ h.staged

theorem State.Still.flightSound {s t : State} (h : s.Still t) (hs : s.FlightSound) : t.FlightSound where
  config := hs.config.of_eq h.applied h.staged
  timer hc := by
    rw [State.inCycle_of_state h.state] at hc
    rw [h.timer, h.applied]
    exact hs.timer hc
  flight x hx := by
    rw [h.engine] at hx
    obtain ⟨cycle, phase, window, slot⟩ := hs.flight x hx
    have same : t.trunk.phase = s.trunk.phase := h.phase.resolve_left (by simp [hx])
    rw [State.inCycle_of_state h.state, same, h.applied]
    exact ⟨cycle, phase, window, slot⟩

theorem State.Still.awaitsFor {s t : State} (h : s.Still t) {f : Option Exchange} {k : ParkKind}
    (hs : s.AwaitsFor f k) : t.AwaitsFor f k := by
  cases k with
  | close l dropped => exact ⟨hs.1, h.closing l hs.2⟩
  | cancel id => exact ⟨hs.1, h.cancelling id hs.2⟩

theorem State.Still.parkedFor {s t : State} (h : s.Still t) {f : Option Exchange} (hs : s.ParkedFor f) :
    t.ParkedFor f := fun k hk => h.awaitsFor (hs k (h.arbiter ▸ hk))

theorem State.HandsTrue.of_eq {s t : State} {d : Option Port} (ports : t.ports = s.ports) (arbiter : t.arbiter = s.arbiter)
    (hs : s.HandsTrue d) : t.HandsTrue d where
  hand p := by
    rw [ports, ← hs.hand p]
    simp only [State.inHand, arbiter]
  shown := ports ▸ hs.shown

theorem State.Still.portsFor {s t : State} (h : s.Still t) {f : Option Exchange} {c : Option Port}
    (hs : s.PortsFor f c) : t.PortsFor f c := ⟨hs.hands.of_eq h.ports h.arbiter, h.parkedFor hs.parked⟩

theorem State.Still.soundStep {s t : State} (h : s.Still t)
    (leases : s.FlightSound → s.LeasesFor s.engine.state.inFlight → t.LeasesFor s.engine.state.inFlight) :
    s.SoundStep t where
  pending := h.pending
  flight := h.flightSound
  leases hf hl := h.engine ▸ leases hf hl
  ports _ hp := h.engine ▸ h.portsFor hp

theorem State.Calm.keepsOwnLeases {s t : State} (h : s.Calm t) (hl : s.LeasesFor s.engine.state.inFlight) :
    t.LeasesFor s.engine.state.inFlight :=
  h.leases _ (fun k hk => s.recordInFlight_eq k ▸ hk) hl

theorem State.Calm.soundStep {s t : State} (h : s.Calm t) : s.SoundStep t :=
  h.toStill.soundStep fun _ => h.keepsOwnLeases

/-! ### Steps that leave the tables and the ports -/

/-- Records, requests, ports and commands stay; the Cycle Unit and the engine may change. -/
structure State.Unmoved (s t : State) : Prop where
  pending : t.pending = s.pending
  ports : t.ports = s.ports
  arbiter : t.arbiter = s.arbiter
  records : t.table.records = s.table.records
  requests : t.acyclic.requests = s.acyclic.requests

theorem State.Unmoved.trans {s t u : State} (h : s.Unmoved t) (k : t.Unmoved u) : s.Unmoved u :=
  ⟨k.pending.trans h.pending, k.ports.trans h.ports, k.arbiter.trans h.arbiter, k.records.trans h.records,
    k.requests.trans h.requests⟩

theorem State.Unmoved.closing_iff {s t : State} (h : s.Unmoved t) (k : Handle) : t.Closing k ↔ s.Closing k := by
  simp only [State.Closing, State.record, h.records]

theorem State.Unmoved.cancelling_iff {s t : State} (h : s.Unmoved t) (id : ReqId) :
    t.Cancelling id ↔ s.Cancelling id := by
  simp only [State.Cancelling, State.request, h.requests]

theorem State.Unmoved.awaitsFor {s t : State} (h : s.Unmoved t) {f : Option Exchange} {k : ParkKind}
    (hs : s.AwaitsFor f k) : t.AwaitsFor f k := by
  cases k with
  | close l dropped => exact ⟨hs.1, (h.closing_iff l).2 hs.2⟩
  | cancel id => exact ⟨hs.1, (h.cancelling_iff id).2 hs.2⟩

theorem State.Unmoved.portsFor {s t : State} (h : s.Unmoved t) {f : Option Exchange} {c : Option Port}
    (hs : s.PortsFor f c) : t.PortsFor f c :=
  ⟨hs.hands.of_eq h.ports h.arbiter, fun k hk => h.awaitsFor (hs.parked k (h.arbiter ▸ hk))⟩

theorem State.Unmoved.leasesFor {s t : State} (h : s.Unmoved t) {f : Option Exchange} (hs : s.LeasesFor f) :
    t.LeasesFor f :=
  ⟨fun k r hr => hs.leases k r (by simpa only [State.record, h.records] using hr),
    fun k hk => hs.closing k ((h.closing_iff k).1 hk)⟩

/-- The exchange in flight stays too. -/
theorem State.Unmoved.soundStep {s t : State} (h : s.Unmoved t)
    (same : t.engine.state.inFlight = s.engine.state.inFlight) (flight : s.FlightSound → t.FlightSound) :
    s.SoundStep t :=
  ⟨h.pending, flight, fun _ hl => same ▸ h.leasesFor hl, fun _ hp => same ▸ h.portsFor hp⟩

/-! ### A parked command answered -/

theorem State.inHand_unparked {s : State} {k : Parked} (hk : s.arbiter.parked = some k) (p : Port) :
    s.inHand p = ({ s with arbiter := { s.arbiter with parked := none } } : State).inHand p +
      if k.port = p ∧ k.orphan = false then 1 else 0 := by
  simp [State.inHand, hk]

/-- A port with a command in hand is WORKING, and has no other. -/
theorem State.HandsTrue.working {s : State} {c : Option Port} (hs : s.HandsTrue c) {p : Port} (hp : 1 ≤ s.inHand p) :
    (s.ports.get p).state = .working ∧ s.inHand p = 1 ∧ c ≠ some p := by
  have hand := hs.hand p
  by_cases hw : (s.ports.get p).state = .working
  · rw [if_pos hw] at hand
    refine ⟨hw, by omega, fun hc => ?_⟩
    rw [if_pos hc] at hand
    omega
  · rw [if_neg hw] at hand
    omega

theorem State.inHand_compose (s : State) (p q : Port) (tag : Byte) (r : ResultCode) (body : List Byte) :
    (s.compose p tag r body).inHand q = s.inHand q := rfl

theorem State.ports_compose_get (s : State) (p q : Port) (tag : Byte) (r : ResultCode) (body : List Byte) :
    (s.compose p tag r body).ports.get q =
      if q = p then { s.ports.get p with state := .resultReady (resultFrame tag r body) } else s.ports.get q := by
  by_cases h : q = p
  · subst h
    simp [State.compose, State.updPort]
  · simp [State.compose, State.updPort, h, PerPort.get_put_other _ _ _ _ h]

/-- A result composed for a WORKING port, whose last command in hand it answers. -/
theorem State.HandsTrue.compose {s : State} {c : Option Port} {p : Port} {tag : Byte} {r : ResultCode} {body : List Byte}
    (hand : ∀ q, s.inHand q + (if c = some q then 1 else 0) =
      if q ≠ p ∧ (s.ports.get q).state = .working then 1 else 0)
    (shown : ∀ q status frame, (s.ports.get q).txn = .active status (some (true, frame)) →
      (s.ports.get q).state = .resultReady frame)
    (working : (s.ports.get p).state = .working) : (s.compose p tag r body).HandsTrue c where
  hand q := by
    rw [State.inHand_compose, hand q, State.ports_compose_get]
    by_cases h : q = p <;> simp [h]
  shown q status frame hq := by
    rw [State.ports_compose_get] at hq ⊢
    by_cases h : q = p
    · subst h
      rw [if_pos rfl] at hq
      exact absurd ((shown q status frame hq).symm.trans working) nofun
    · rw [if_neg h] at hq ⊢
      exact shown q status frame hq

theorem State.HandsTrue.answerParked {s : State} {c : Option Port} (hs : s.HandsTrue c) (w : ParkKind → Bool)
    (b : ParkKind → List Byte) : (s.answerParked w b).HandsTrue c := by
  obtain e | ⟨k, hk, -, e⟩ := s.answerParked_cases w b <;> rw [e]
  · exact hs
  · have inHand := State.inHand_unparked hk
    by_cases ho : k.orphan = true
    · rw [if_pos ho]
      refine ⟨fun p => ?_, hs.shown⟩
      have hand := hs.hand p
      rw [inHand p, if_neg (by simp [ho])] at hand
      exact hand
    · have own : k.orphan = false := by simpa using ho
      rw [if_neg ho]
      obtain ⟨working, one, free⟩ := hs.working (p := k.port) (by rw [inHand, if_pos ⟨rfl, own⟩]; omega)
      refine State.HandsTrue.compose (fun q => ?_) hs.shown working
      have hand := hs.hand q
      rw [inHand q] at hand
      by_cases h : q = k.port
      · subst h
        rw [inHand, if_pos ⟨rfl, own⟩] at one
        rw [if_neg free, if_neg (by simp)]
        omega
      · rw [if_neg (by simpa [own] using Ne.symm h)] at hand
        simpa [h] using hand

theorem State.parked_answerParked {s : State} {w : ParkKind → Bool} {b : ParkKind → List Byte}
    (h : ∀ k, s.arbiter.parked = some k → w k.kind = true) : (s.answerParked w b).arbiter.parked = none := by
  unfold State.answerParked
  split
  · next hn => exact hn
  · next k hk =>
    rw [if_pos (h k hk)]
    dsimp only
    split <;> rfl

theorem State.parkedFor_of_none {s : State} {f : Option Exchange} (h : s.arbiter.parked = none) : s.ParkedFor f :=
  fun k hk => by rw [h] at hk; cases hk

/-! ### An exchange that ends -/

theorem servesRecord_some {x : Exchange} {h : Handle} : servesRecord (some x) h = true ↔ x.poll.handle? = some h := by
  simp [servesRecord]

theorem servesRequest_some {x : Exchange} {id : ReqId} : servesRequest (some x) id = true ↔ x.poll.reqId? = some id := by
  simp [servesRequest]

theorem Poll.reqId?_of_handle? {p : Poll} {h : Handle} (hp : p.handle? = some h) : p.reqId? = none := by
  cases p with
  | collect | value | hold | probe => rfl
  | piece => cases hp

theorem Poll.handle?_of_reqId? {p : Poll} {id : ReqId} (hp : p.reqId? = some id) : p.handle? = none := by
  cases p with
  | piece | probe => rfl
  | collect | value | hold => cases hp

/-- A command parked for a stream poll's end closes its record. -/
theorem State.ParkedFor.closes {s : State} {x : Exchange} {h : Handle} (hs : s.ParkedFor (some x))
    (hx : x.poll.handle? = some h) {k : Parked} (hk : s.arbiter.parked = some k) :
    k.kind.closes h = true ∧ s.Closing h := by
  have awaits := hs k hk
  cases hkind : k.kind with
  | close l dropped =>
    rw [hkind] at awaits
    have e : l = h := Option.some.inj ((servesRecord_some.1 awaits.1).symm.trans hx)
    exact ⟨by simp [ParkKind.closes, e], e ▸ awaits.2⟩
  | cancel id =>
    rw [hkind] at awaits
    have e := servesRequest_some.1 awaits.1
    rw [Poll.reqId?_of_handle? hx] at e
    cases e

/-- A command parked for a piece's end cancels its request. -/
theorem State.ParkedFor.cancels {s : State} {x : Exchange} {id : ReqId} (hs : s.ParkedFor (some x))
    (hx : x.poll.reqId? = some id) {k : Parked} (hk : s.arbiter.parked = some k) :
    k.kind.cancels id = true ∧ s.Cancelling id := by
  have awaits := hs k hk
  cases hkind : k.kind with
  | close l dropped =>
    rw [hkind] at awaits
    have e := servesRecord_some.1 awaits.1
    rw [Poll.handle?_of_reqId? hx] at e
    cases e
  | cancel id' =>
    rw [hkind] at awaits
    have e : id' = id := Option.some.inj ((servesRequest_some.1 awaits.1).symm.trans hx)
    exact ⟨by simp [ParkKind.cancels, e], e ▸ awaits.2⟩

theorem State.ParkedFor.none_of_not_closing {s : State} {x : Exchange} {h : Handle} (hs : s.ParkedFor (some x))
    (hx : x.poll.handle? = some h) (hc : ¬s.Closing h) : s.arbiter.parked = none :=
  Option.eq_none_iff_forall_ne_some.2 fun _ hk => hc (hs.closes hx hk).2

theorem State.ParkedFor.none_of_not_cancelling {s : State} {x : Exchange} {id : ReqId} (hs : s.ParkedFor (some x))
    (hx : x.poll.reqId? = some id) (hc : ¬s.Cancelling id) : s.arbiter.parked = none :=
  Option.eq_none_iff_forall_ne_some.2 fun _ hk => hc (hs.cancels hx hk).2

theorem State.ParkedFor.none_of_unserving {s : State} {f : Option Exchange} (hs : s.ParkedFor f)
    (hr : ∀ h, servesRecord f h = false) (hq : ∀ id, servesRequest f id = false) : s.arbiter.parked = none := by
  refine Option.eq_none_iff_forall_ne_some.2 fun k hk => ?_
  have awaits := hs k hk
  cases hkind : k.kind <;> simp [hkind, State.AwaitsFor, hr, hq] at awaits

/-- An exchange begins where there was none. -/
theorem State.soundStep_start {s t : State} (idle : s.engine.state.inFlight = none) (pending : t.pending = s.pending)
    (ports : t.ports = s.ports) (arbiter : t.arbiter = s.arbiter) (records : t.table.records = s.table.records)
    (flight : s.FlightSound → t.FlightSound) : s.SoundStep t where
  pending := pending
  flight := flight
  leases _ hl := by
    rw [idle] at hl
    refine ⟨fun k r hr => hl.leases k r (by simpa only [State.record, records] using hr), fun k hk => ?_⟩
    exact absurd (hl.closing k (by simpa only [State.Closing, State.record, records] using hk)) nofun
  ports c hp := by
    rw [idle] at hp
    refine ⟨hp.hands.of_eq ports arbiter, State.parkedFor_of_none ?_⟩
    rw [arbiter]
    exact hp.parked.none_of_unserving (fun _ => rfl) fun _ => rfl

theorem State.portsFor_of_none {s : State} {c : Option Port} (hs : s.HandsTrue c) (h : s.arbiter.parked = none) :
    s.PortsFor none c := ⟨hs, State.parkedFor_of_none h⟩

/-- A still step after which nothing waits for the exchange any more. -/
theorem State.Still.portsFor_ended {s t : State} (h : s.Still t) {f : Option Exchange} {c : Option Port}
    (hs : s.PortsFor f c) (hn : s.arbiter.parked = none) : t.PortsFor none c :=
  State.portsFor_of_none (hs.hands.of_eq h.ports h.arbiter) (h.arbiter ▸ hn)

/-- A CLOSING record freed at its exchange's end. -/
theorem State.portsFor_endClosing {s : State} {x : Exchange} {h : Handle} {r : StreamRecord} {c : Option Port}
    (hs : s.PortsFor (some x) c) (hx : x.poll.handle? = some h) : (s.endClosing h r).PortsFor none c := by
  have freed : (s.freeRecord h r).HandsTrue c := hs.hands.of_eq (by simp) (by simp)
  refine State.portsFor_of_none (freed.answerParked _ _) (State.parked_answerParked fun k hk => ?_)
  exact (hs.parked.closes hx (k := k) (by simpa using hk)).1

theorem State.portsFor_endCancelling {s : State} {x : Exchange} {id : ReqId} {q : Request} {c : Option Port}
    (hs : s.PortsFor (some x) c) (hx : x.poll.reqId? = some id) : (s.endCancelling id q).PortsFor none c := by
  have freed : (s.freeRequest id).HandsTrue c := hs.hands.of_eq (by simp) (by simp)
  refine State.portsFor_of_none (freed.answerParked _ _) (State.parked_answerParked fun k hk => ?_)
  exact (hs.parked.cancels hx (k := k) (by simpa using hk)).1

/-- The record of an exchange that ended is no longer CLOSING, and so none is. -/
theorem State.LeasesFor.ended {s : State} {x : Exchange} {h : Handle} (hs : s.LeasesFor (some x))
    (hx : x.poll.handle? = some h) (hc : ¬s.Closing h) : s.LeasesFor none :=
  ⟨hs.leases, fun k hk => absurd hk (by
    have e := (servesRecord_some.1 (hs.closing k hk)).symm.trans hx
    rw [Option.some.inj e]
    exact hc)⟩

/-- An exchange of no record ends. -/
theorem State.LeasesFor.ended_of_unserving {s : State} {f : Option Exchange} (hs : s.LeasesFor f)
    (hr : ∀ h, servesRecord f h = false) : s.LeasesFor none :=
  ⟨hs.leases, fun k hk => absurd (hs.closing k hk) (by simp [hr])⟩

theorem State.record_answerParked (s : State) (w : ParkKind → Bool) (b : ParkKind → List Byte) (k : Handle) :
    (s.answerParked w b).record k = s.record k := by
  simp [State.record]

theorem State.record_endClosing (s : State) (h k : Handle) (r : StreamRecord) :
    (s.endClosing h r).record k = if k = h then none else s.record k := by
  rw [State.endClosing, State.record_answerParked, State.record_freeRecord]

theorem State.leasesFor_endClosing {s : State} {x : Exchange} {h : Handle} {r : StreamRecord}
    (hs : s.LeasesFor (some x)) (hx : x.poll.handle? = some h) : (s.endClosing h r).LeasesFor none := by
  have live {k : Handle} {q : StreamRecord} (hq : (s.endClosing h r).record k = some q) :
      k ≠ h ∧ s.record k = some q := by
    rw [State.record_endClosing] at hq
    split at hq
    · cases hq
    · next hk => exact ⟨hk, hq⟩
  refine ⟨fun k q hq => hs.leases k q (live hq).2, fun k ⟨q, hq, hc⟩ => ?_⟩
  have e := (servesRecord_some.1 (hs.closing k ⟨q, (live hq).2, hc⟩)).symm.trans hx
  exact absurd (Option.some.inj e) (live hq).1

theorem State.leasesFor_endCancelling {s : State} {f : Option Exchange} {id : ReqId} {q : Request}
    (hs : s.LeasesFor f) : (s.endCancelling id q).LeasesFor f := by
  have same (k : Handle) : (s.endCancelling id q).record k = s.record k := by
    simp [State.endCancelling, State.record]
  exact ⟨fun k r hr => hs.leases k r ((same k).symm.trans hr),
    fun k ⟨r, hr, hc⟩ => hs.closing k ⟨r, (same k).symm.trans hr, hc⟩⟩

/-! ### A command taken, and its owner's answer -/

theorem State.inHand_taken {s : State} {c : Command} {rest : List Command} (hw : s.arbiter.waiting = c :: rest)
    (p : Port) : s.inHand p = (s.taken rest).inHand p + if c.port = p then 1 else 0 := by
  by_cases h : c.port = p <;> simp [State.inHand, State.taken, hw, h, Nat.add_right_comm]

/-- The command taken passes from the arbiter to its owner. -/
theorem State.PortsFor.taken {s : State} {f : Option Exchange} {c : Command} {rest : List Command}
    (hs : s.PortsFor f none) (hw : s.arbiter.waiting = c :: rest) : (s.taken rest).PortsFor f (some c.port) := by
  refine ⟨⟨fun p => ?_, hs.hands.shown⟩, fun k hk => ?_⟩
  · have hand := hs.hands.hand p
    rw [State.inHand_taken hw p] at hand
    change _ = if (s.ports.get p).state = .working then 1 else 0
    by_cases h : c.port = p <;> simpa [h] using hand
  · have awaits := hs.parked k hk
    cases hkind : k.kind <;> rw [hkind] at awaits <;> exact awaits

/-- An owner's result answers the command. -/
theorem State.PortsFor.composed {s : State} {f : Option Exchange} {p : Port} {tag : Byte} {r : ResultCode}
    {body : List Byte} (hs : s.PortsFor f (some p)) : (s.compose p tag r body).PortsFor f none := by
  have working : (s.ports.get p).state = .working := by
    have hand := hs.hands.hand p
    by_contra hw
    rw [if_neg hw, if_pos rfl] at hand
    omega
  refine ⟨State.HandsTrue.compose (fun q => ?_) hs.hands.shown working, fun k hk => ?_⟩
  · have hand := hs.hands.hand q
    by_cases h : q = p
    · subst h
      rw [if_pos working, if_pos rfl] at hand
      simp only [reduceCtorEq, if_false, ne_eq, not_true_eq_false, false_and]
      omega
    · simpa [h, Ne.symm h] using hand
  · have awaits := hs.parked k hk
    cases hkind : k.kind <;> rw [hkind] at awaits <;> exact awaits

/-- An owner answers soundly: a sound step, and a command is parked only where none was, for the exchange in flight. -/
structure State.AnswersSoundly (s : State) (out : State × Answer) : Prop where
  step : s.SoundStep out.1
  parks : ∀ k, out.2 = .park k → s.ParkedFor s.engine.state.inFlight →
    out.1.arbiter.parked = none ∧ out.1.AwaitsFor out.1.engine.state.inFlight k

theorem State.answersSoundly_reply {s t : State} {r : ResultCode} {body : List Byte} (h : s.SoundStep t) :
    s.AnswersSoundly (t, .reply r body) := ⟨h, nofun⟩

theorem State.answersSoundly_refuse (s : State) (r : ResultCode) : s.AnswersSoundly (s.refuse r) :=
  State.answersSoundly_reply (.refl s)

theorem State.FlightSound.of_same {s t : State} (trunk : t.trunk = s.trunk) (engine : t.engine = s.engine)
    (hs : s.FlightSound) : t.FlightSound where
  config := trunk ▸ hs.config
  timer hc := by
    rw [State.inCycle_of_state (s := s) (by rw [trunk])] at hc
    rw [trunk]
    exact hs.timer hc
  flight x hx := by
    rw [State.inCycle_of_state (s := s) (by rw [trunk]), trunk]
    exact hs.flight x (engine ▸ hx)

theorem State.LeasesFor.of_table {s t : State} {f : Option Exchange} (table : t.table = s.table) (hs : s.LeasesFor f) :
    t.LeasesFor f :=
  ⟨fun k r hr => hs.leases k r (by simpa only [State.record, table] using hr),
    fun k hk => hs.closing k (by simpa only [State.Closing, State.record, table] using hk)⟩

theorem State.portsFor_park {s : State} {f : Option Exchange} {c : Command} {k : ParkKind}
    (hs : s.PortsFor f (some c.port)) (hn : s.arbiter.parked = none) (hk : s.AwaitsFor f k) :
    (s.deliver c (.park k)).PortsFor f none := by
  refine ⟨⟨fun p => ?_, hs.hands.shown⟩, fun k' e => ?_⟩
  · have hand := hs.hands.hand p
    change _ = if (s.ports.get p).state = .working then 1 else 0
    simp only [State.inHand, hn, State.deliver_park, Option.some.injEq, and_true] at hand ⊢
    by_cases h : c.port = p <;> simpa [h] using hand
  · have e : k' = ⟨k, c.port, c.tag, false⟩ := (Option.some.inj e).symm
    subst e
    cases k <;> exact hk

/-- What a whole step leaves of the queue, the exchange in flight, the leases and the ports. -/
structure State.SoundNext (s t : State) : Prop where
  pending : t.pending = s.pending
  flight : s.FlightSound → t.FlightSound
  leases : s.FlightSound → s.LeasesFor s.engine.state.inFlight → t.LeasesFor t.engine.state.inFlight
  ports : s.PortsFor s.engine.state.inFlight none → t.PortsFor t.engine.state.inFlight none

theorem State.SoundStep.soundNext {s t : State} (h : s.SoundStep t) : s.SoundNext t :=
  ⟨h.pending, h.flight, h.leases, h.ports none⟩

theorem State.soundNext_serve (s : State) (p : Port) (name : CommandName)
    {owner : Port → List Byte → State → State × Answer} (ho : ∀ q body (u : State), u.AnswersSoundly (owner q body u)) :
    s.SoundNext (s.serve p name owner) := by
  obtain e | ⟨c, rest, hw, -, -, e⟩ := s.serve_cases p name owner <;> rw [e]
  · exact (State.SoundStep.refl s).soundNext
  · obtain ⟨step, parks⟩ := ho p c.body (s.taken rest)
    change s.SoundNext ((owner p c.body (s.taken rest)).1.deliver c (owner p c.body (s.taken rest)).2)
    generalize owner p c.body (s.taken rest) = out at step parks
    obtain ⟨u, a⟩ := out
    have engine : (u.deliver c a).engine = u.engine := by simp
    refine ⟨?_, fun hf => ?_, fun hf hl => ?_, fun hp => ?_⟩
    · simpa [State.taken] using step.pending
    · exact (step.flight (hf.of_same (by rfl) (by rfl))).of_same (by simp) (by simp)
    · rw [engine]
      exact (step.leases (hf.of_same (by rfl) (by rfl)) (hl.of_table (by rfl))).of_table (by simp)
    · have taken := hp.taken hw
      have acted := step.ports _ taken
      rw [engine]
      cases a with
      | reply r body => exact acted.composed
      | park k =>
        obtain ⟨free, awaits⟩ := parks k rfl taken.parked
        exact State.portsFor_park acted free awaits

end Sys2Proof.Machine
end

section
/-! PROOFS. The host commands are sound steps: the leases that bodies spell are in their range, what the owners do is
calm or, for the Cycle Unit's commands, keeps the configuration in its table, and a command is parked for the exchange
in flight alone. -/

namespace Sys2Proof.Machine

/-! ### The leases that bodies spell (Table 12-6) -/

theorem word16_lt (hi lo : Byte) : word16 hi lo < 65536 := by
  have := hi.isLt
  have := lo.isLt
  unfold word16
  omega

theorem readLease_range {hi lo : Byte} {l : Nat} (h : readLease hi lo = some (some l)) : 16 ≤ l ∧ l ≤ 65535 := by
  have := word16_lt hi lo
  unfold readLease at h
  dsimp only at h
  split at h
  · cases h
  · split at h
    · cases h
      omega
    · cases h

theorem lease_of_readOpen {body : List Byte} {g : OpenArgs} {l : Nat} (h : readOpen body = some g)
    (hl : g.lease = some l) : 16 ≤ l ∧ l ≤ 65535 := by
  unfold readOpen at h
  split at h
  · simp only [Option.bind_eq_bind, Option.bind_eq_some_iff] at h
    obtain ⟨_, -, _, -, _, -, lease, hlease, e⟩ := h
    cases e
    exact readLease_range (hlease.trans (congrArg some hl))
  · cases h

theorem lease_of_readAmend {body : List Byte} {g : AmendArgs} {l : Nat} (h : readAmend body = some g)
    (hl : g.lease = some (some l)) : 16 ≤ l ∧ l ≤ 65535 := by
  unfold readAmend at h
  split at h
  · split at h
    · simp only [Option.bind_eq_bind, Option.bind_eq_some_iff] at h
      obtain ⟨_, -, _, -, _, -, _, -, _, -, lease, hlease, e⟩ := h
      cases e
      unfold named at hlease
      split at hlease
      · obtain ⟨v, hv, e⟩ := Option.map_eq_some_iff.1 hlease
        have ev : v = some l := Option.some.inj (e.trans hl)
        exact readLease_range (ev ▸ hv)
      · have e : lease = none := (Option.some.inj hlease).symm
        exact absurd (e.symm.trans hl) nofun
    · cases h
  · cases h

/-! ### The checks that commands share -/

theorem State.answersSoundly_withRecord {s : State} {b : Byte} {act : Handle → StreamRecord → State × Answer}
    (ha : ∀ h r, s.record h = some r → s.AnswersSoundly (act h r)) : s.AnswersSoundly (s.withRecord b act) := by
  unfold State.withRecord
  split
  · exact s.answersSoundly_refuse _
  · split
    · exact s.answersSoundly_refuse _
    · next r hr => exact ha _ r hr

theorem State.answersSoundly_withOwnRecord {s : State} {p : Port} {b : Byte}
    {act : Handle → StreamRecord → State × Answer}
    (ha : ∀ h r, s.record h = some r → s.AnswersSoundly (act h r)) : s.AnswersSoundly (s.withOwnRecord p b act) :=
  State.answersSoundly_withRecord fun h r hr => by
    split
    · exact ha h r hr
    · exact s.answersSoundly_refuse _

theorem State.answersSoundly_withOwnRequest {s : State} {p : Port} {body : List Byte}
    {act : ReqId → Request → State × Answer}
    (ha : ∀ id q, s.request id = some q → s.AnswersSoundly (act id q)) :
    s.AnswersSoundly (s.withOwnRequest p body act) := by
  unfold State.withOwnRequest
  split
  · exact s.answersSoundly_refuse _
  · split
    · exact s.answersSoundly_refuse _
    · split
      · exact s.answersSoundly_refuse _
      · next q hq =>
        split
        · exact ha _ q hq
        · exact s.answersSoundly_refuse _

theorem State.Calm.answers {s t : State} {r : ResultCode} {body : List Byte} (h : s.Calm t) :
    s.AnswersSoundly (t, .reply r body) :=
  State.answersSoundly_reply h.soundStep

/-! ### The Table Controller's commands -/

theorem leasePair_self {o : Option Nat} (h : ∀ l, o = some l → 16 ≤ l ∧ l ≤ 65535) : leasePair o o := by
  cases o with
  | none => trivial
  | some l =>
    have := h l rfl
    exact ⟨this.1, this.2, by omega, le_refl l⟩

theorem State.beginState_ne_closing (s : State) (n : Node) : s.beginState n ≠ .closing := by
  unfold State.beginState
  split <;> decide

theorem State.apart_openRecord (s : State) (p : Port) (h : Handle) (n : Node) (g : OpenArgs) (phase : Nat) :
    s.Apart (s.openRecord p h n g phase) := by
  rw [State.openRecord_eq]
  exact ⟨rfl, rfl, rfl, rfl, rfl, rfl⟩

theorem State.calm_openRecord {s : State} {h : Handle} {g : OpenArgs} (p : Port) (n : Node) (phase : Nat)
    (hh : s.record h = none) (lease : ∀ l, g.lease = some l → 16 ≤ l ∧ l ≤ 65535) :
    s.Calm (s.openRecord p h n g phase) :=
  (s.apart_openRecord p h n g phase).calm_of_replaced (s.replaced_openRecord p h n g phase)
    (fun ⟨r, hr, _⟩ => by rw [hh] at hr; cases hr)
    (fun q e _ => by
      cases e
      exact ⟨leasePair_self lease, nofun⟩)
    (fun q e hc => by
      cases e
      exact absurd hc (s.beginState_ne_closing n))

theorem State.answersSoundly_judgeOpen {s : State} {g : OpenArgs} (p : Port) (n : Node)
    (lease : ∀ l, g.lease = some l → 16 ≤ l ∧ l ≤ 65535) : s.AnswersSoundly (s.judgeOpen p n g) := by
  unfold State.judgeOpen
  dsimp only
  split
  · exact s.answersSoundly_refuse _
  · split
    · exact s.answersSoundly_refuse _
    · split
      · exact s.answersSoundly_refuse _
      · next hh =>
        split
        · exact s.answersSoundly_refuse _
        · split
          · exact s.answersSoundly_refuse _
          · exact (State.calm_openRecord p n _ (State.record_of_chooseHandle hh) lease).answers

theorem answersSoundly_ownOpenStream (p : Port) (body : List Byte) (s : State) :
    s.AnswersSoundly (ownOpenStream p body s) := by
  unfold ownOpenStream
  split
  · exact s.answersSoundly_refuse _
  · next hg =>
    split
    · exact s.answersSoundly_refuse _
    · split
      · exact s.answersSoundly_refuse _
      · exact State.answersSoundly_judgeOpen p _ fun l => lease_of_readOpen hg

theorem StreamRecord.LeaseOk.range {r : StreamRecord} (hr : r.LeaseOk) {l : Nat} (hl : r.params.lease = some l) :
    16 ≤ l ∧ l ≤ 65535 := by
  have pair := hr.pair
  rw [hl] at pair
  cases hm : r.leaseRemaining with
  | none =>
    rw [hm] at pair
    exact pair.elim
  | some m =>
    rw [hm] at pair
    exact ⟨pair.1, pair.2.1⟩

theorem State.calm_amendRecord {s : State} {h : Handle} {r : StreamRecord} {g : AmendArgs} (phase : Nat)
    (hr : s.record h = some r) (lease : ∀ l, g.lease = some (some l) → 16 ≤ l ∧ l ≤ 65535) :
    s.Calm (s.amendRecord h r g phase) :=
  State.Apart.calm_of_replaced ⟨rfl, rfl, rfl, rfl, rfl, rfl⟩ (s.replaced_amendRecord h r g phase)
    (fun hc => ⟨_, rfl, (State.closing_iff_of_record hr).1 hc⟩)
    (fun q e hs => by
      cases e
      refine ⟨(hs r hr).pair, fun am l ha hl => ?_⟩
      cases ha
      cases hg : g.lease with
      | none => exact (hs r hr).range (by simpa [AmendArgs.params, hg] using hl)
      | some o => exact lease l (by simpa [AmendArgs.params, hg] using hl))
    (fun q e hc => by
      cases e
      exact .inl ((State.closing_iff_of_record hr).2 hc))

theorem State.answersSoundly_judgeAmend {s : State} {h : Handle} {r : StreamRecord} {g : AmendArgs} (released : Bool)
    (hr : s.record h = some r) (lease : ∀ l, g.lease = some (some l) → 16 ≤ l ∧ l ≤ 65535) :
    s.AnswersSoundly (s.judgeAmend h r g released) := by
  have unchanged (code : ResultCode) (body : List Byte) : s.AnswersSoundly (s, .reply code body) :=
    State.answersSoundly_reply (.refl s)
  unfold State.judgeAmend
  dsimp only
  split
  · exact unchanged _ _
  · split
    · exact unchanged _ _
    · split
      · exact unchanged _ _
      · split
        · exact unchanged _ _
        · exact (State.calm_amendRecord _ hr lease).answers

theorem State.AnswersSoundly.after {s t : State} {out : State × Answer} (h : s.Calm t) (hreply : ∀ k, out.2 ≠ .park k)
    (ht : t.AnswersSoundly out) : s.AnswersSoundly out :=
  ⟨h.soundStep.trans ht.step, fun k hk => absurd hk (hreply k)⟩

theorem State.judgeAmend_ne_park (s : State) (h : Handle) (r : StreamRecord) (g : AmendArgs) (released : Bool)
    (k : ParkKind) : (s.judgeAmend h r g released).2 ≠ .park k := by
  unfold State.judgeAmend
  dsimp only
  (repeat' split) <;> nofun

theorem answersSoundly_ownAmendStream (p : Port) (body : List Byte) (s : State) :
    s.AnswersSoundly (ownAmendStream p body s) := by
  unfold ownAmendStream
  split
  · exact s.answersSoundly_refuse _
  · next hg =>
    refine State.answersSoundly_withOwnRecord fun h r hr => ?_
    split
    · exact s.answersSoundly_refuse _
    · exact (State.answersSoundly_judgeAmend _ (State.record_dropAmendment hr) fun l => lease_of_readAmend hg).after
        (State.calm_dropAmendment hr) (State.judgeAmend_ne_park _ _ _ _ _)

theorem State.servesRecord_of_inFlight {s : State} {h : Handle} (hf : s.recordInFlight h = true) :
    ∃ x, s.engine.state.inFlight = some x ∧ x.poll.handle? = some h := by
  rw [State.recordInFlight_eq] at hf
  obtain ⟨x, hx, e⟩ := (Option.any_eq_true _ _).1 hf
  exact ⟨x, hx, by simpa using e⟩

theorem State.servesRequest_of_inFlight {s : State} {id : ReqId} (hf : s.requestInFlight id = true) :
    ∃ x, s.engine.state.inFlight = some x ∧ x.poll.reqId? = some id := by
  rw [State.requestInFlight_eq] at hf
  obtain ⟨x, hx, e⟩ := (Option.any_eq_true _ _).1 hf
  exact ⟨x, hx, by simpa using e⟩

theorem State.closing_retire {s : State} {h : Handle} {r : StreamRecord} (hc : r.state ≠ .closing)
    (hf : s.recordInFlight h = true) : (s.retire h r).Closing h := by
  obtain ⟨hc', -⟩ | ⟨-, -, e⟩ | ⟨-, hf', -⟩ := s.retire_cases h r
  · exact absurd hc' hc
  · rw [e]
    exact ⟨_, State.record_setRecord_same _ h _, rfl⟩
  · rw [hf] at hf'
    cases hf'

theorem answersSoundly_ownCloseStream (p : Port) (body : List Byte) (s : State) :
    s.AnswersSoundly (ownCloseStream p body s) := by
  unfold ownCloseStream
  split
  · exact s.answersSoundly_refuse _
  · refine State.answersSoundly_withOwnRecord fun h r hr => ?_
    have retired := State.calm_retire hr
    split
    · exact s.answersSoundly_refuse _
    · next hc =>
      split
      · next hf =>
        refine ⟨retired.soundStep, fun k e hs => ?_⟩
        cases e
        obtain ⟨x, hx, served⟩ := State.servesRecord_of_inFlight hf
        rw [hx] at hs
        rw [retired.engine, hx]
        exact ⟨retired.arbiter ▸ hs.none_of_not_closing served fun h => hc ((State.closing_iff_of_record hr).1 h),
          servesRecord_some.2 served, State.closing_retire hc hf⟩
      · exact (retired.trans (State.calm_advance _)).answers

theorem answersSoundly_ownReadStream (p : Port) (body : List Byte) (s : State) :
    s.AnswersSoundly (ownReadStream p body s) := by
  unfold ownReadStream
  split
  · exact s.answersSoundly_refuse _
  · refine State.answersSoundly_withRecord fun h r hr => ?_
    split
    · exact (State.Calm.refl s).answers
    · split
      · exact (State.calm_setRecord (q := r.cleared) hr rfl rfl (.inl rfl) Iff.rfl).answers
      · exact s.answersSoundly_refuse _

/-- An owner that answers and changes nothing. -/
theorem State.answersSoundly_of_unchanged {s : State} {out : State × Answer} (h : out.1 = s)
    (hreply : ∀ k, out.2 ≠ .park k) : s.AnswersSoundly out :=
  ⟨by rw [h]; exact .refl s, fun k hk => absurd hk (hreply k)⟩

theorem ownFindStream_ne_park (p : Port) (body : List Byte) (s : State) (k : ParkKind) :
    (ownFindStream p body s).2 ≠ .park k := by
  unfold ownFindStream State.refuse
  (repeat' split) <;> nofun

theorem State.calm_postRecord {s : State} {h : Handle} {r : StreamRecord} (value : List Byte)
    (hr : s.record h = some r) : s.Calm (s.postRecord h r value) :=
  (s.calm_storeBytes _ value).trans
    (State.calm_setRecord (r := r) hr (by rfl) (by rfl) (.inl (by rfl)) Iff.rfl)

theorem answersSoundly_ownPostValue (p : Port) (body : List Byte) (s : State) :
    s.AnswersSoundly (ownPostValue p body s) := by
  unfold ownPostValue
  split
  · exact s.answersSoundly_refuse _
  · refine State.answersSoundly_withOwnRecord fun h r hr => ?_
    split
    · exact s.answersSoundly_refuse _
    · split
      · exact s.answersSoundly_refuse _
      · exact (State.calm_postRecord _ hr).answers

theorem StreamRecord.LeaseOk.renewed {r : StreamRecord} (hr : r.LeaseOk) (p : Port) : (r.renewed p).LeaseOk := by
  unfold StreamRecord.renewed
  split
  · exact ⟨leasePair_self fun l => hr.range, hr.amended⟩
  · exact hr

theorem answersSoundly_ownRenewLeases (p : Port) (body : List Byte) (s : State) :
    s.AnswersSoundly (ownRenewLeases p body s) := by
  unfold ownRenewLeases
  split
  · exact s.answersSoundly_refuse _
  · have renewed : s.Calm (s.renewAll p) := State.calm_of_mapRecords ⟨rfl, rfl, rfl, rfl, rfl, rfl⟩ _ rfl
      (fun r hr => hr.renewed p) (StreamRecord.renewed_state p)
    exact renewed.answers

theorem answersSoundly_ownRestartStream (p : Port) (body : List Byte) (s : State) :
    s.AnswersSoundly (ownRestartStream p body s) := by
  unfold ownRestartStream
  split
  · exact s.answersSoundly_refuse _
  · refine State.answersSoundly_withOwnRecord fun h r hr => ?_
    split
    · exact s.answersSoundly_refuse _
    · next hf =>
      have faulted : r.state = .faulted := not_not.1 hf
      exact (State.calm_setRecord hr (by rfl) (by rfl) (.inl (by rfl))
        (by simp [faulted, s.beginState_ne_closing])).answers

theorem ownReadLoad_ne_park (p : Port) (body : List Byte) (s : State) (k : ParkKind) :
    (ownReadLoad p body s).2 ≠ .park k := by
  unfold ownReadLoad State.refuse
  (repeat' split) <;> nofun

/-! ### The Acyclic Scheduler's commands -/

theorem State.not_cancelling_of_free {s : State} {id : ReqId} (h : s.request id = none) : ¬s.Cancelling id :=
  fun ⟨q, hq, _⟩ => by rw [h] at hq; cases hq

theorem State.calm_sendRequest {s : State} {id : ReqId} (p : Port) (n : Node) (g : SendArgs)
    (hf : s.request id = none) : s.Calm (s.sendRequest p id n g) :=
  ((s.calm_setRequest id _ (State.not_cancelling_of_free hf)).trans (State.calm_storeBytes _ _ _)).trans
    (State.calm_lists _ _ _ _ _ _)

theorem answersSoundly_ownSendRequest (p : Port) (body : List Byte) (s : State) :
    s.AnswersSoundly (ownSendRequest p body s) := by
  unfold ownSendRequest
  split
  · exact s.answersSoundly_refuse _
  · split
    · exact s.answersSoundly_refuse _
    · split
      · exact s.answersSoundly_refuse _
      · split
        · exact s.answersSoundly_refuse _
        · next hf => exact (State.calm_sendRequest p _ _ (State.request_of_freeReqId hf)).answers

theorem State.not_cancelling_of_state {s : State} {id : ReqId} {q : Request} (hq : s.request id = some q)
    (h : q.state ≠ .cancelling) : ¬s.Cancelling id :=
  fun hc => h ((State.cancelling_iff_of_request hq).1 hc)

theorem answersSoundly_ownFetchRequest (p : Port) (body : List Byte) (s : State) :
    s.AnswersSoundly (ownFetchRequest p body s) :=
  State.answersSoundly_withOwnRequest fun id q hq => by
    have freed (h : q.state ≠ .cancelling) : s.Calm (s.freeRequest id) :=
      State.calm_freeRequest (State.not_cancelling_of_state hq h)
    split
    · next h => exact (freed (by simp [h])).answers
    · next h => exact (freed (by simp [h])).answers
    all_goals exact (State.Calm.refl s).answers

theorem State.cancelling_cancel {s : State} {id : ReqId} {q : Request} (ha : q.state = .active)
    (hf : s.requestInFlight id = true) : (s.cancel id q).Cancelling id := by
  obtain ⟨hc, -⟩ | ⟨-, -, e⟩ | ⟨-, hn, -⟩ := s.cancel_cases id q
  · rw [ha] at hc
    cases hc
  · rw [e]
    exact ⟨_, State.request_setRequest_same _ id _, rfl⟩
  · exact absurd ⟨ha, hf⟩ hn

theorem answersSoundly_ownCancelRequest (p : Port) (body : List Byte) (s : State) :
    s.AnswersSoundly (ownCancelRequest p body s) :=
  State.answersSoundly_withOwnRequest fun id q hq => by
    have cancelled := State.calm_cancel hq
    split
    · exact s.answersSoundly_refuse _
    · next hc =>
      split
      · next hf =>
        refine ⟨cancelled.soundStep, fun k e hs => ?_⟩
        cases e
        obtain ⟨x, hx, served⟩ := State.servesRequest_of_inFlight hf.2
        rw [hx] at hs
        rw [cancelled.engine, hx]
        exact ⟨cancelled.arbiter ▸ hs.none_of_not_cancelling served (State.not_cancelling_of_state hq hc),
          servesRequest_some.2 served, State.cancelling_cancel hf.1 hf.2⟩
      · exact (cancelled.trans (State.calm_advance _)).answers

/-! ### The commands of the Node Roster and of the Attention Unit -/

theorem ownReadNode_ne_park (p : Port) (body : List Byte) (s : State) (k : ParkKind) :
    (ownReadNode p body s).2 ≠ .park k := by
  unfold ownReadNode State.refuse
  (repeat' split) <;> nofun

theorem State.calm_scan (s : State) : s.Calm s.scan := by
  unfold State.scan
  dsimp only
  split
  · exact s.calm_lists _ _ _ _ _
  · exact (s.calm_lists _ _ _ _ _).trans (State.calm_lists (s.appendProbes s.scanNew) _ _ _ _ _)

theorem answersSoundly_ownScanNodes (p : Port) (body : List Byte) (s : State) :
    s.AnswersSoundly (ownScanNodes p body s) := by
  unfold ownScanNodes
  split
  · exact s.answersSoundly_refuse _
  · exact s.calm_scan.answers

theorem State.calm_setAttn (s : State) (attn : PerPort AttnSet) : s.Calm { s with attn := attn } :=
  State.Apart.calm ⟨rfl, rfl, rfl, rfl, rfl, rfl⟩ rfl

theorem answersSoundly_ownReadAttn (p : Port) (body : List Byte) (s : State) :
    s.AnswersSoundly (ownReadAttn p body s) := by
  unfold ownReadAttn
  split
  · exact s.answersSoundly_refuse _
  · exact (s.calm_setAttn _).answers

/-- A port changed in neither its state nor its transaction. -/
theorem State.soundStep_updPort {s : State} {p : Port} {f : HostPort → HostPort}
    (state : (f (s.ports.get p)).state = (s.ports.get p).state) (txn : (f (s.ports.get p)).txn = (s.ports.get p).txn) :
    s.SoundStep (s.updPort p f) := by
  have same (q : Port) : ((s.updPort p f).ports.get q).state = (s.ports.get q).state ∧
      ((s.updPort p f).ports.get q).txn = (s.ports.get q).txn := by
    by_cases h : q = p
    · subst h
      simpa [State.updPort] using ⟨state, txn⟩
    · simp [State.updPort, PerPort.get_put_other _ _ _ _ h]
  refine ⟨rfl, fun hf => hf.of_same (by rfl) (by rfl), fun _ hl => hl.of_table (by rfl), fun c hp => ⟨⟨fun q => ?_,
    fun q status frame hq => ?_⟩, fun k hk => ?_⟩⟩
  · rw [(same q).1]
    exact hp.hands.hand q
  · rw [(same q).2] at hq
    rw [(same q).1]
    exact hp.hands.shown q status frame hq
  · have awaits := hp.parked k hk
    cases hkind : k.kind <;> rw [hkind] at awaits <;> exact awaits

theorem answersSoundly_ownSetAttnMask (p : Port) (body : List Byte) (s : State) :
    s.AnswersSoundly (ownSetAttnMask p body s) := by
  unfold ownSetAttnMask
  split
  · exact s.answersSoundly_refuse _
  · exact State.answersSoundly_reply (State.soundStep_updPort (by rfl) (by rfl))

end Sys2Proof.Machine
end

section
/-! PROOFS. The trunk's commands and events, the schedulers' turns and the ends of exchanges are sound steps. -/

namespace Sys2Proof.Machine

/-! ### When no exchange is in flight -/

theorem State.FlightSound.idle_of_not_inCycle {s : State} (hs : s.FlightSound) (hc : s.inCycle = false) :
    s.engine.state.inFlight = none :=
  Option.eq_none_iff_forall_ne_some.2 fun x hx => by
    rw [(hs.flight x hx).1] at hc
    cases hc

/-- A moment that is reached is no later than the slot end of the exchange in flight. -/
theorem State.le_slotEnd_of_reaches {s : State} {m : Nat} {x : Exchange} (hs : s.FlightSound)
    (hx : s.engine.state.inFlight = some x) (hm : s.reaches m = true) : m ≤ x.slotEnd := by
  obtain ⟨-, -, window, -⟩ := hs.flight x hx
  have deadline : notAfter m s.engineDeadline = true := by
    simp only [State.reaches, Bool.and_eq_true] at hm
    exact hm.1.1.2
  unfold State.engineDeadline at deadline
  split at deadline <;> simp_all [EngineState.inFlight, notAfter] <;> omega

/-- When the timer has run out no exchange is in flight: its slot ended by C − 10. -/
theorem State.FlightSound.idle_of_timerDue {s : State} (hs : s.FlightSound) (hd : s.timerDue = true) :
    s.engine.state.inFlight = none :=
  Option.eq_none_iff_forall_ne_some.2 fun x hx => by
    obtain ⟨cycle, -, -, slot⟩ := hs.flight x hx
    have reached : s.reaches s.trunk.applied.c = true := by simpa [State.timerDue, hs.timer cycle] using hd
    have := State.le_slotEnd_of_reaches hs hx reached
    omega

theorem State.FlightSound.idle_of_mark {s : State} (hs : s.FlightSound) (hp : s.trunk.phase = .mark) :
    s.engine.state.inFlight = none :=
  Option.eq_none_iff_forall_ne_some.2 fun x hx => by
    have phase := (hs.flight x hx).2.1
    rw [hp] at phase
    cases hpoll : x.poll <;> simp [hpoll, Poll.inPhase] at phase

theorem State.flightSound_of_idle {t : State} (config : t.trunk.ConfigInTable)
    (timer : t.inCycle = true → t.trunk.timer = some t.trunk.applied.c) (idle : t.engine.state.inFlight = none) :
    t.FlightSound :=
  ⟨config, timer, fun x hx => by rw [idle] at hx; cases hx⟩

/-! ### The staged configuration, HALTED and FAULTED -/

theorem State.configInTable_applyStaged {s : State} (hs : s.trunk.ConfigInTable) :
    s.applyStaged.trunk.ConfigInTable := by
  rw [State.trunk_applyStaged]
  split
  · exact hs
  · next g hg => exact ⟨hs.staged g hg, hs.window, hs.threshold, hs.interval, nofun⟩

theorem State.state_applyStaged (s : State) : s.applyStaged.trunk.state = s.trunk.state := by
  rw [State.trunk_applyStaged]
  split <;> rfl

theorem State.unmoved_enterHalted (s : State) : s.Unmoved s.enterHalted :=
  ⟨by simp, by simp, by simp, by simp, by simp⟩

theorem State.flightSound_enterHalted {s : State} (hs : s.FlightSound) (idle : s.engine.state.inFlight = none) :
    s.enterHalted.FlightSound := by
  have config : s.enterHalted.trunk.ConfigInTable :=
    State.configInTable_applyStaged (hs.config.of_eq (by rfl) (by rfl))
  have halted : s.enterHalted.trunk.state = .halted := by
    unfold State.enterHalted
    rw [State.trunk_raiseBoth, State.state_applyStaged]
    rfl
  exact State.flightSound_of_idle config (fun hc => by simp [State.inCycle, halted] at hc) (by simpa using idle)

theorem State.soundStep_enterHalted {s : State} (idle : s.FlightSound → s.engine.state.inFlight = none) :
    s.SoundStep s.enterHalted :=
  s.unmoved_enterHalted.soundStep (by simp) fun hs => State.flightSound_enterHalted hs (idle hs)

/-- An exchange abandoned takes its CLOSING record, its CANCELLING request and its parked command with it. -/
theorem State.portsFor_abandon {s : State} {c : Option Port} (hs : s.PortsFor s.engine.state.inFlight c) :
    s.abandon.PortsFor none c := by
  have idle : s.Unmoved (s.setEngine .idle) := ⟨rfl, rfl, rfl, rfl, rfl⟩
  unfold State.abandon
  dsimp only
  split
  · next hx => exact idle.portsFor (hx ▸ hs)
  · next x hx =>
    rw [hx] at hs
    have moved := idle.portsFor hs
    have ended (hn : (s.setEngine .idle).arbiter.parked = none) : (s.setEngine .idle).PortsFor none c :=
      State.portsFor_of_none moved.hands hn
    split
    · next h hh =>
      split
      · next r hr =>
        split
        · exact State.portsFor_endClosing moved hh
        · next hc => exact ended (moved.parked.none_of_not_closing hh fun h => hc ((State.closing_iff_of_record hr).1 h))
      · next hr =>
        exact ended (moved.parked.none_of_not_closing hh fun ⟨r, hr', _⟩ => absurd (hr.symm.trans hr') nofun)
    · next id _ hid =>
      split
      · next q hq =>
        split
        · exact State.portsFor_endCancelling moved hid
        · next hc =>
          exact ended (moved.parked.none_of_not_cancelling hid fun h => hc ((State.cancelling_iff_of_request hq).1 h))
      · next hq =>
        exact ended (moved.parked.none_of_not_cancelling hid fun ⟨q, hq', _⟩ => absurd (hq.symm.trans hq') nofun)
    · next hh hid =>
      exact ended (moved.parked.none_of_unserving (fun h => by simp [servesRecord, hh])
        fun id => by simp [servesRequest, hid])

theorem State.leasesFor_abandon {s : State} (hs : s.LeasesFor s.engine.state.inFlight) : s.abandon.LeasesFor none := by
  have idle : s.Unmoved (s.setEngine .idle) := ⟨rfl, rfl, rfl, rfl, rfl⟩
  unfold State.abandon
  dsimp only
  split
  · next hx => exact idle.leasesFor (hx ▸ hs)
  · next x hx =>
    rw [hx] at hs
    have moved := idle.leasesFor hs
    split
    · next h hh =>
      split
      · next r hr =>
        split
        · exact State.leasesFor_endClosing moved hh
        · next hc => exact moved.ended hh fun h => hc ((State.closing_iff_of_record hr).1 h)
      · next hr => exact moved.ended hh fun ⟨r, hr', _⟩ => absurd (hr.symm.trans hr') nofun
    · next id hh hid =>
      have ended := moved.ended_of_unserving fun h => by simp [servesRecord, hh]
      split
      · split
        · exact State.leasesFor_endCancelling ended
        · exact ended
      · exact ended
    · next hh _ => exact moved.ended_of_unserving fun h => by simp [servesRecord, hh]

/-- What entry to FAULTED leaves of the state after the exchange was abandoned. -/
theorem State.unmoved_enterFaulted (s : State) (cause : FaultCause) : s.abandon.Unmoved (s.enterFaulted cause) := by
  unfold State.enterFaulted
  exact ⟨by simp, by simp, by simp, by simp, by simp⟩

theorem State.configInTable_enterFaulted {s : State} (cause : FaultCause) (hs : s.trunk.ConfigInTable) :
    (s.enterFaulted cause).trunk.ConfigInTable := by
  unfold State.enterFaulted
  dsimp only
  rw [State.trunk_raiseBoth]
  refine State.configInTable_applyStaged ?_
  exact (show s.abandon.trunk.ConfigInTable by simpa using hs).of_eq (by rfl) (by rfl)

theorem State.soundStep_enterFaulted (s : State) (cause : FaultCause) : s.SoundStep (s.enterFaulted cause) := by
  obtain ⟨faulted, -, engine, -⟩ := s.state_enterFaulted cause
  have idle : (s.enterFaulted cause).engine.state.inFlight = none := by rw [engine]; rfl
  refine ⟨by simp, fun hs => ?_, fun _ hl => ?_, fun c hp => ?_⟩
  · exact State.flightSound_of_idle (State.configInTable_enterFaulted cause hs.config)
      (fun hc => by simp [State.inCycle, faulted] at hc) idle
  · rw [idle]
    exact (s.unmoved_enterFaulted cause).leasesFor (State.leasesFor_abandon hl)
  · rw [idle]
    exact (s.unmoved_enterFaulted cause).portsFor (State.portsFor_abandon hp)

/-! ### The trunk restart and the restart marks -/

theorem State.unmoved_beginRestartMark (s : State) : s.Unmoved s.beginRestartMark := by
  unfold State.beginRestartMark
  exact ⟨by simp, by simp, by simp, by simp, by simp⟩

theorem State.soundStep_beginRestartMark {s : State} (hc : s.inCycle = false) : s.SoundStep s.beginRestartMark := by
  refine s.unmoved_beginRestartMark.soundStep (by simp [State.beginRestartMark]) fun hs => ?_
  have state : s.beginRestartMark.trunk.state = s.trunk.state := s.state_applyStaged
  have config : s.beginRestartMark.trunk.ConfigInTable :=
    (State.configInTable_applyStaged hs.config).of_eq (by rfl) (by rfl)
  refine State.flightSound_of_idle config (fun h => ?_) ?_
  · rw [State.inCycle_of_state state, hc] at h
    cases h
  · simpa [State.beginRestartMark] using hs.idle_of_not_inCycle hc

theorem State.soundStep_restartMarkFallsDue {s : State} (hc : s.inCycle = false) :
    s.SoundStep s.restartMarkFallsDue := by
  unfold State.restartMarkFallsDue
  split
  · exact s.soundStep_enterFaulted _
  · exact State.soundStep_beginRestartMark hc

theorem State.inCycle_of_stopped {s : State} (h : s.stopped = true) : s.inCycle = false := by
  cases hs : s.trunk.state <;> simp_all [State.stopped, State.inCycle]

/-- The trunk alone changes, outside any cycle. -/
theorem State.soundStep_updTrunk_outside {s : State} {f : CycleUnit → CycleUnit} (hc : s.inCycle = false)
    (hc' : (s.updTrunk f).inCycle = false) (applied : (f s.trunk).applied = s.trunk.applied)
    (staged : (f s.trunk).staged = s.trunk.staged) : s.SoundStep (s.updTrunk f) :=
  State.Unmoved.soundStep ⟨rfl, rfl, rfl, rfl, rfl⟩ rfl fun hs =>
    State.flightSound_of_idle (hs.config.of_eq applied staged) (fun h => by rw [hc'] at h; cases h)
      (hs.idle_of_not_inCycle hc)

theorem StreamRecord.LeaseOk.resynced {r : StreamRecord} (hr : r.LeaseOk) : r.resynced.LeaseOk := ⟨hr.pair, hr.amended⟩

/-- What a trunk restart does to the records, the roster and the lists. -/
def State.resynced (s : State) : State :=
  { s with
    table := { s.table with records := s.table.records.map fun o => o.map StreamRecord.resynced }
    roster := s.roster.map fun e => { e with failures := 0 }
    sched := ⟨[], [], []⟩ }

theorem State.trunkRestart_eq (s : State) :
    s.trunkRestart = s.resynced.updTrunk fun u => { u with
      state := .syncing, cycle := 0, marksSent := 0, haltRequested := false, faultCause := none, clock := 0,
      phase := .idle, guard := false } := rfl

theorem State.calm_resynced (s : State) : s.Calm s.resynced :=
  State.calm_of_mapRecords ⟨rfl, rfl, rfl, rfl, rfl, rfl⟩ StreamRecord.resynced rfl (fun _ hr => hr.resynced)
    fun _ => rfl

theorem State.soundStep_trunkRestart {s : State} (hs : s.stopped = true) : s.SoundStep s.trunkRestart := by
  rw [State.trunkRestart_eq]
  refine s.calm_resynced.soundStep.trans (State.soundStep_updTrunk_outside ?_ ?_ (by rfl) (by rfl))
  · exact (State.inCycle_of_state s.calm_resynced.state).trans (State.inCycle_of_stopped hs)
  · rfl

theorem State.calm_senseLfault (s : State) (b : Bool) : s.Calm (s.senseLfault b) := by
  unfold State.senseLfault
  split
  · exact State.Apart.calm ⟨rfl, rfl, rfl, rfl, rfl, rfl⟩ rfl
  · exact .refl s

theorem answersSoundly_ownStartTrunk (lfault : Bool) (p : Port) (body : List Byte) (s : State) :
    s.AnswersSoundly (ownStartTrunk lfault p body s) := by
  unfold ownStartTrunk
  split
  · exact s.answersSoundly_refuse _
  · split
    · exact s.answersSoundly_refuse _
    · next hs =>
      split
      · exact (s.calm_senseLfault true).answers
      · refine State.answersSoundly_reply (((s.calm_senseLfault false).soundStep.trans
          (State.soundStep_trunkRestart ?_)).trans (State.soundStep_restartMarkFallsDue (by rfl)))
        exact (s.stopped_senseLfault false).trans (by simpa using hs)

/-! ### HALT_TRUNK, SET_CONFIG, READ_CONFIG -/

theorem State.soundStep_haltTrunk (s : State) : s.SoundStep s.haltTrunk := by
  unfold State.haltTrunk
  split
  · next hr =>
    refine State.Unmoved.soundStep ⟨rfl, rfl, rfl, rfl, rfl⟩ rfl fun hs => ?_
    have cycle : s.inCycle = true := by simp [State.inCycle, hr]
    exact ⟨hs.config.of_eq (by rfl) (by rfl), fun _ => hs.timer cycle, fun x hx => ⟨rfl, (hs.flight x hx).2⟩⟩
  · next hr =>
    split
    · exact (s.calm_updTrunk _ rfl rfl rfl rfl (.inr rfl)).soundStep
    · exact State.soundStep_enterHalted fun hs => hs.idle_of_not_inCycle (by simp [State.inCycle, hr])
  all_goals exact .refl s

theorem answersSoundly_ownHaltTrunk (p : Port) (body : List Byte) (s : State) :
    s.AnswersSoundly (ownHaltTrunk p body s) := by
  unfold ownHaltTrunk
  split
  · exact s.answersSoundly_refuse _
  · split
    · exact State.answersSoundly_reply s.soundStep_haltTrunk
    · exact s.answersSoundly_refuse _

theorem inRangeIfNamed_iff {α : Type} {o : Option α} {test : α → Bool} :
    inRangeIfNamed o test = true ↔ ∀ v, o = some v → test v = true := by
  cases o <;> simp [inRangeIfNamed]

/-- The ranges of the fields that SET_CONFIG names (Table 2-4). -/
theorem ConfigArgs.inRange_iff {g : ConfigArgs} :
    g.inRange = true ↔ g.namesNothing = false ∧ (∀ c, g.c = some c → 250 ≤ c ∧ c ≤ 8000 ∧ c % 50 = 0) ∧
      (∀ a, g.a = some a → 100 ≤ a ∧ a ≤ 4000) ∧ (∀ w, g.w = some w → 2 ≤ w ∧ w ≤ 40) ∧
      (∀ t, g.threshold = some t → 2 ≤ t ∧ t ≤ 15) ∧ ∀ i, g.interval = some i → i ∈ [8, 16, 32, 64, 128] := by
  simp only [ConfigArgs.inRange, Bool.and_eq_true, Bool.not_eq_true', inRangeIfNamed_iff, decide_eq_true_eq,
    List.contains_eq_mem, and_assoc]

theorem ConfigArgs.candidate_inTable {g : ConfigArgs} {u : CycleUnit} (hr : g.inRange = true)
    (hk : ¬(g.candidate u).c < 18 + (g.candidate u).a) (hu : u.ConfigInTable) :
    inTable (g.candidate u).c (g.candidate u).a := by
  obtain ⟨-, hc, ha, -⟩ := ConfigArgs.inRange_iff.1 hr
  have named {c a : Nat} (h : inTable c a) : 250 ≤ g.c.getD c ∧ g.c.getD c ≤ 8000 ∧ g.c.getD c % 50 = 0 ∧
      100 ≤ g.a.getD a ∧ g.a.getD a ≤ 4000 := by
    obtain ⟨c_low, c_high, c_step, a_low, a_high, -⟩ := h
    refine and_assoc.1 (and_assoc.1 ⟨and_assoc.2 ?_, ?_⟩)
    · cases hgc : g.c with
      | none => exact ⟨c_low, c_high, c_step⟩
      | some c' => exact hc c' hgc
    · cases hga : g.a with
      | none => exact ⟨a_low, a_high⟩
      | some a' => exact ha a' hga
  unfold ConfigArgs.candidate at hk ⊢
  cases hs : u.staged with
  | none =>
    rw [hs] at hk
    obtain ⟨c_low, c_high, c_step, a_low, a_high⟩ := named hu.applied
    exact ⟨c_low, c_high, c_step, a_low, a_high, not_lt.1 hk⟩
  | some t =>
    rw [hs] at hk
    obtain ⟨c_low, c_high, c_step, a_low, a_high⟩ := named (hu.staged t hs)
    exact ⟨c_low, c_high, c_step, a_low, a_high, not_lt.1 hk⟩

theorem Option.getD_of_named {α : Type} {P : α → Prop} {o : Option α} {d : α} (named : ∀ v, o = some v → P v) (hd : P d) :
    P (o.getD d) := by
  cases o with
  | none => exact hd
  | some v => exact named v rfl

theorem ConfigArgs.configured_inTable {g : ConfigArgs} {u : CycleUnit} (stopped : Bool) (hr : g.inRange = true)
    (hk : ¬(g.candidate u).c < 18 + (g.candidate u).a) (hu : u.ConfigInTable) :
    (g.configured stopped u).ConfigInTable := by
  have candidate := ConfigArgs.candidate_inTable hr hk hu
  obtain ⟨-, -, -, window, threshold, interval⟩ := ConfigArgs.inRange_iff.1 hr
  unfold ConfigArgs.configured
  dsimp only
  split
  · exact ⟨candidate, Option.getD_of_named window hu.window, Option.getD_of_named threshold hu.threshold,
      Option.getD_of_named interval hu.interval, hu.staged⟩
  · exact ⟨hu.applied, hu.window, hu.threshold, hu.interval, fun t ht => by cases ht; exact candidate⟩

theorem State.flightSound_setConfig {s : State} {g : ConfigArgs} (hr : g.inRange = true)
    (hk : ¬(g.candidate s.trunk).c < 18 + (g.candidate s.trunk).a) (hs : s.FlightSound) :
    (s.setConfig g).FlightSound := by
  have config := ConfigArgs.configured_inTable s.stopped hr hk hs.config
  rw [State.setConfig_eq]
  cases hstop : s.stopped with
  | true =>
    rw [hstop] at config
    have outside := State.inCycle_of_stopped hstop
    refine State.flightSound_of_idle config (fun hc => ?_) (hs.idle_of_not_inCycle outside)
    exact absurd (hc.symm.trans outside) nofun
  | false =>
    rw [hstop] at config
    exact ⟨config, hs.timer, hs.flight⟩

theorem State.soundStep_setConfig {s : State} {g : ConfigArgs} (hr : g.inRange = true)
    (hk : ¬(g.candidate s.trunk).c < 18 + (g.candidate s.trunk).a) : s.SoundStep (s.setConfig g) := by
  have unmoved : s.Unmoved (s.setConfig g) := by
    rw [State.setConfig_eq]
    exact ⟨rfl, rfl, rfl, rfl, rfl⟩
  refine unmoved.soundStep ?_ (State.flightSound_setConfig hr hk)
  rw [State.setConfig_eq]

theorem answersSoundly_ownSetConfig (p : Port) (body : List Byte) (s : State) :
    s.AnswersSoundly (ownSetConfig p body s) := by
  unfold ownSetConfig
  split
  · exact s.answersSoundly_refuse _
  · dsimp only
    split
    · exact s.answersSoundly_refuse _
    · next hr =>
      obtain ⟨range, fits⟩ := not_or.1 hr
      split
      · exact s.answersSoundly_refuse _
      · split
        · exact s.answersSoundly_refuse _
        · exact State.answersSoundly_reply (State.soundStep_setConfig (by simpa using range) fits)

theorem ownReadConfig_ne_park (p : Port) (body : List Byte) (s : State) (k : ParkKind) :
    (ownReadConfig p body s).2 ≠ .park k := by
  unfold ownReadConfig State.refuse
  split <;> nofun

/-! ### The cycle mark -/

/-- The cycle mark is in the trunk alone, and no exchange is in flight. -/
theorem State.unmoved_openCycle (s : State) : s.Unmoved s.openCycle := by
  unfold State.openCycle
  dsimp only
  split <;> exact ⟨by simp, by simp, by simp, by simp, by simp⟩

theorem State.engine_openCycle (s : State) : s.openCycle.engine = s.engine := by
  unfold State.openCycle
  dsimp only
  split <;> simp

theorem State.applied_openCycle (s : State) : s.openCycle.trunk.applied = s.applyStaged.trunk.applied ∧
    s.openCycle.trunk.staged = s.applyStaged.trunk.staged ∧
    s.openCycle.trunk.timer = some s.applyStaged.trunk.applied.c := by
  unfold State.openCycle
  dsimp only
  split <;> exact ⟨rfl, rfl, rfl⟩

theorem State.state_openCycle {s : State} (hs : s.trunk.state = .running ∨ s.trunk.state = .syncing) :
    s.openCycle.trunk.state = .running := by
  have same := s.state_applyStaged
  unfold State.openCycle
  dsimp only
  split
  · rfl
  · next hn => exact same.trans (hs.resolve_right fun h => hn (same.trans h))

theorem State.soundStep_openCycle {s : State} (idle : s.FlightSound → s.engine.state.inFlight = none) :
    s.SoundStep s.openCycle := by
  refine s.unmoved_openCycle.soundStep (by rw [State.engine_openCycle]) fun hs => ?_
  obtain ⟨applied, staged, timer⟩ := s.applied_openCycle
  refine State.flightSound_of_idle ((State.configInTable_applyStaged hs.config).of_eq applied staged) (fun _ => ?_) ?_
  · rw [timer, applied]
  · rw [State.engine_openCycle]
    exact idle hs

theorem StreamRecord.aged_leases (r : StreamRecord) :
    r.aged.params = r.params ∧ r.aged.leaseRemaining = r.leaseRemaining ∧ r.aged.amendment = r.amendment := by
  unfold StreamRecord.aged
  split <;> exact ⟨rfl, rfl, rfl⟩

theorem StreamRecord.amended_leases (r : StreamRecord) (am : Amendment) :
    (r.amended am).leaseRemaining = am.params.lease ∧ (r.amended am).state = r.state := by
  unfold StreamRecord.amended
  dsimp only
  split <;> exact ⟨rfl, rfl⟩

/-- What a mark leaves of a record before its lease is judged. -/
def StreamRecord.marked (r : StreamRecord) : StreamRecord :=
  match r.amendment with
  | some am => (r.amended am).aged
  | none => r.leaseCounted.aged

theorem StreamRecord.marked_state (r : StreamRecord) : r.marked.state = r.state := by
  unfold StreamRecord.marked
  split
  · rw [StreamRecord.aged_state, (r.amended_leases _).2]
  · rw [StreamRecord.aged_state]
    rfl

/-- The record before its lease is judged has a sound lease, or a remaining of 0. -/
theorem StreamRecord.LeaseOk.marked {r : StreamRecord} (hr : r.LeaseOk) :
    r.marked.leaseRemaining = some 0 ∨ r.marked.LeaseOk := by
  unfold StreamRecord.marked
  split
  · next am ha =>
    obtain ⟨params, remaining, amendment⟩ := (r.amended am).aged_leases
    rw [State.amended_params] at params
    rw [(r.amended_leases am).1] at remaining
    rw [State.amended_amendment] at amendment
    refine .inr ⟨?_, fun am' l h => by rw [amendment] at h; cases h⟩
    rw [params, remaining]
    exact leasePair_self fun l => hr.amended am l ha
  · next ha =>
    obtain ⟨params, remaining, amendment⟩ := r.leaseCounted.aged_leases
    have params : r.leaseCounted.aged.params = r.params := params
    have remaining : r.leaseCounted.aged.leaseRemaining = r.leaseRemaining.map (· - 1) := remaining
    have amendment : r.leaseCounted.aged.amendment = none := amendment.trans ha
    have pair := hr.pair
    rw [remaining]
    cases hm : r.leaseRemaining with
    | none =>
      rw [hm] at pair
      refine .inr ⟨?_, fun am l h => by rw [amendment] at h; cases h⟩
      rw [params, remaining, hm]
      exact pair
    | some m =>
      by_cases spent : m = 1
      · exact .inl (by simp [spent])
      · refine .inr ⟨?_, fun am l h => by rw [amendment] at h; cases h⟩
        rw [params, remaining, hm]
        cases hl : r.params.lease with
        | none => rw [hl, hm] at pair; exact pair.elim
        | some l =>
          rw [hl, hm] at pair
          obtain ⟨low, high, one, within⟩ := pair
          exact ⟨low, high, Nat.le_sub_of_add_le (by omega), (Nat.sub_le m 1).trans within⟩

/-- The state that a mark leaves before it judges the lease of a record. -/
def State.beforeExpiry (s : State) (h : Handle) (r : StreamRecord) : State :=
  (match r.amendment with
    | some am => s.applyAmendment h r am
    | none => s.setRecord h (some r.leaseCounted)).updRecord h StreamRecord.aged

theorem State.markRecord_of_live {s : State} {h : Handle} {r : StreamRecord} (hr : s.record h = some r) :
    s.markRecord h = (s.beforeExpiry h r).expireLease h := by
  unfold State.markRecord
  rw [hr]
  rfl

theorem State.updRecord_of_live {s : State} {h : Handle} {r : StreamRecord} (f : StreamRecord → StreamRecord)
    (hr : s.record h = some r) : s.updRecord h f = s.setRecord h (some (f r)) := by
  simp only [State.updRecord, hr]

theorem State.replaced_beforeExpiry (s : State) (h : Handle) (r : StreamRecord) :
    s.Replaced h (some r.marked) (s.beforeExpiry h r) := by
  have changed {q : StreamRecord} {u : State} (hu : s.Replaced h (some q) u) :
      s.Replaced h (some q.aged) (u.updRecord h StreamRecord.aged) := by
    rw [State.updRecord_of_live _ hu.1]
    exact ⟨u.record_setRecord_same h _, fun k hk => (u.record_setRecord_other h k _ hk).trans (hu.2 k hk)⟩
  unfold State.beforeExpiry StreamRecord.marked
  split
  · next am _ => exact changed (s.replaced_applyAmendment h r am)
  · exact changed (s.replaced_setRecord h (some r.leaseCounted))

theorem State.apart_beforeExpiry (s : State) (h : Handle) (r : StreamRecord) : s.Apart (s.beforeExpiry h r) := by
  unfold State.beforeExpiry
  split <;> exact ⟨by simp, by simp, by simp, by simp, by simp, by simp⟩

theorem State.calm_expireLease (s : State) (h : Handle) : s.Calm (s.expireLease h) := by
  unfold State.expireLease
  split
  · exact .refl s
  · next r hr =>
    split
    · exact (State.calm_retire hr).trans (State.calm_raise _ _ _ _)
    · exact .refl s

theorem State.still_markRecord (s : State) (h : Handle) : s.Still (s.markRecord h) := by
  cases hr : s.record h with
  | none =>
    have e : s.markRecord h = s := by simp [State.markRecord, hr]
    rw [e]
    exact .refl s
  | some r =>
    rw [State.markRecord_of_live hr]
    refine ((s.apart_beforeExpiry h r).still ?_).trans (State.calm_expireLease _ h).toStill
    exact State.Apart.closing_of_replaced (s.replaced_beforeExpiry h r) fun hc =>
      ⟨_, rfl, r.marked_state.trans ((State.closing_iff_of_record hr).1 hc)⟩

theorem State.record_raise (s : State) (p : Port) (src : Source) (r : Reason) (k : Handle) :
    (s.raise p src r).record k = s.record k := rfl

/-- At a mark in RUNNING with no exchange in flight, a record keeps a sound lease or is freed. -/
theorem State.leasesFor_markRecord {s : State} {h : Handle} (run : s.trunk.state = .running)
    (idle : s.engine.state.inFlight = none) (hs : s.LeasesFor none) : (s.markRecord h).LeasesFor none := by
  cases hr : s.record h with
  | none =>
    have e : s.markRecord h = s := by simp [State.markRecord, hr]
    rw [e]
    exact hs
  | some r =>
    rw [State.markRecord_of_live hr]
    have none_closing : ∀ k, ¬s.Closing k := fun k hk => absurd (hs.closing k hk) nofun
    have apart := s.apart_beforeExpiry h r
    have replaced := s.replaced_beforeExpiry h r
    have closing : r.marked.state ≠ .closing := fun hc =>
      none_closing h ((State.closing_iff_of_record hr).2 (r.marked_state.symm.trans hc))
    by_cases spent : r.marked.leaseRemaining = some 0
    · have free : (s.beforeExpiry h r).recordInFlight h = false := by
        rw [State.recordInFlight_eq, apart.engine, idle]
        rfl
      have expired : (s.beforeExpiry h r).expireLease h =
          ((s.beforeExpiry h r).retire h r.marked).raise r.marked.owner (.stream h) .expired := by
        unfold State.expireLease
        rw [replaced.1]
        exact if_pos ⟨by rw [apart.trunk, run], spent, closing⟩
      have record (k : Handle) : ((s.beforeExpiry h r).expireLease h).record k =
          if k = h then none else s.record k := by
        rw [expired]
        obtain ⟨hc, -⟩ | ⟨-, hf, -⟩ | ⟨-, -, e⟩ := (s.beforeExpiry h r).retire_cases h r.marked
        · exact absurd hc closing
        · rw [free] at hf
          cases hf
        · rw [e]
          rw [State.record_raise, State.record_freeRecord]
          split
          · rfl
          · next hk => rw [State.record_dropAmendment_other hk, replaced.2 k hk]
      have live {k : Handle} {q : StreamRecord} (hq : ((s.beforeExpiry h r).expireLease h).record k = some q) :
          s.record k = some q := by
        rw [record] at hq
        split at hq
        · cases hq
        · exact hq
      exact ⟨fun k q hq => hs.leases k q (live hq), fun k ⟨q, hq, hc⟩ => absurd ⟨q, live hq, hc⟩ (none_closing k)⟩
    · have kept : (s.beforeExpiry h r).expireLease h = s.beforeExpiry h r := by
        unfold State.expireLease
        rw [replaced.1]
        exact if_neg fun hn => spent hn.2.1
      rw [kept]
      refine ⟨fun k q hq => ?_, fun k ⟨q, hq, hc⟩ => ?_⟩
      · by_cases e : k = h
        · subst e
          cases replaced.1.symm.trans hq
          exact (hs.leases k r hr).marked.resolve_left spent
        · exact hs.leases k q ((replaced.2 k e).symm.trans hq)
      · by_cases e : k = h
        · subst e
          cases replaced.1.symm.trans hq
          exact absurd hc closing
        · exact absurd ⟨q, (replaced.2 k e).symm.trans hq, hc⟩ (none_closing k)

theorem State.leasesFor_markRecords (l : List Handle) {s : State} (run : s.trunk.state = .running)
    (idle : s.engine.state.inFlight = none) (hs : s.LeasesFor none) : (l.foldl State.markRecord s).LeasesFor none := by
  induction l generalizing s with
  | nil => exact hs
  | cons h l ih =>
    have still := s.still_markRecord h
    exact ih (still.state.trans run) (by rw [still.engine, idle]) (State.leasesFor_markRecord run idle hs)

theorem State.calm_formLists (s : State) : s.Calm s.formLists := s.calm_sched _

theorem State.calm_intervalProbes (s : State) : s.Calm s.intervalProbes := by
  unfold State.intervalProbes
  split
  · exact s.calm_lists _ _ _ _ _
  · exact .refl s

theorem State.soundStep_beginCycleMark {s : State} (idle : s.FlightSound → s.engine.state.inFlight = none)
    (hs : s.trunk.state = .running ∨ s.trunk.state = .syncing) : s.SoundStep s.beginCycleMark := by
  have marks := State.still_foldl State.still_markRecord handles s.openCycle
  have lists := (State.calm_formLists (handles.foldl State.markRecord s.openCycle)).trans (State.calm_intervalProbes _)
  have opened := State.soundStep_openCycle idle
  have marked : s.SoundStep (handles.foldl State.markRecord s.openCycle) := by
    refine ⟨marks.pending.trans opened.pending, marks.flightSound ∘ opened.flight, fun hf hl => ?_, fun c hp => ?_⟩
    · have none_in_flight : s.openCycle.engine.state.inFlight = none := by rw [State.engine_openCycle, idle hf]
      rw [marks.engine]
      have held_leases := opened.leases hf hl
      rw [none_in_flight] at held_leases ⊢
      exact State.leasesFor_markRecords handles (State.state_openCycle hs) none_in_flight held_leases
    · rw [marks.engine]
      exact marks.portsFor (opened.ports c hp)
  exact marked.trans lists.soundStep

end Sys2Proof.Machine
end

section
/-! PROOFS. The schedulers' turns, the ends of exchanges, the port events and a device reset; the obligations on the
exchange in flight, the ports and the leases, and that every command goes on. -/

namespace Sys2Proof.Machine

/-! ### The starts of exchanges fit their slots (Table 5-1, R67, R68) -/

theorem length_be16 (n : Nat) : (be16 n).length = 2 := rfl

theorem length_withCrc (bytes : List Byte) : (withCrc bytes).length = bytes.length + 2 := by
  simp [withCrc, crcBytes, length_be16]

theorem length_valueAddrs_le (blocks : List Block) (half : Half) (len : Nat) :
    (valueAddrs blocks half len).length ≤ len :=
  List.length_take_le _ _

theorem State.length_currentBytes_le (s : State) (r : StreamRecord) : (s.currentBytes r).length ≤ r.params.len := by
  rw [State.currentBytes, State.loadBytes, Memory.readAll, List.length_map]
  exact length_valueAddrs_le _ _ _

theorem State.length_pieceData_le (s : State) (id : ReqId) (q : Request) :
    (s.pieceData id q).length ≤ q.pieceCount := by
  unfold State.pieceData
  split
  · exact Nat.zero_le _
  · simp [State.loadBytes, Memory.readAll, areaAddrs]

/-- A slot that ends by 8 + B ends by C − 10: the reserve is at least 100. -/
theorem State.fitsGuard_of_fitsRetry {s : State} {slot : Nat} (hs : s.trunk.ConfigInTable)
    (hf : s.fitsRetry slot = true) : s.fitsGuard slot = true := by
  obtain ⟨-, -, -, reserve, -, least⟩ := hs.applied
  have fits : s.trunk.clock + slot ≤ 8 + (s.trunk.applied.c - 18 - s.trunk.applied.a) := of_decide_eq_true hf
  exact decide_eq_true (by omega)

/-- An exchange that starts in its scheduler's phase, with a frame that leaves its window within a slot that fits. -/
theorem State.flightSound_startExchange {s : State} {poll : Poll} {n : Node} {frame : List Byte} {slot : Nat}
    (hs : s.FlightSound) (cycle : s.inCycle = true) (phase : poll.inPhase s.trunk.phase = true)
    (window : frame.length + s.trunk.applied.w ≤ slot) (fits : s.fitsGuard slot = true) :
    (s.startExchange poll n frame slot).FlightSound where
  config := hs.config
  timer := hs.timer
  flight x hx := by
    cases hx
    have fits := of_decide_eq_true fits
    exact ⟨cycle, phase, by dsimp only [State.startExchange, State.setTx, State.setEngine]; omega,
      by dsimp only [State.startExchange, State.setTx, State.setEngine]; omega⟩

theorem State.soundStep_startExchange {s : State} {poll : Poll} {n : Node} {frame : List Byte} {slot : Nat}
    (idle : s.engine.state.inFlight = none) (cycle : s.inCycle = true) (phase : poll.inPhase s.trunk.phase = true)
    (window : frame.length + s.trunk.applied.w ≤ slot)
    (fits : s.FlightSound → s.fitsGuard slot = true) : s.SoundStep (s.startExchange poll n frame slot) :=
  State.soundStep_start idle rfl rfl rfl rfl fun hs => State.flightSound_startExchange hs cycle phase window (fits hs)

/-- What a turn finds: a cycle, the scheduler's phase, and no exchange in flight. -/
theorem State.turn_iff {s : State} {phase : Phase} :
    s.turn phase = true ↔ s.inCycle = true ∧ s.trunk.phase = phase ∧ s.engine.state.inFlight = none := by
  simp [State.turn, and_assoc]

theorem StreamRecord.selected_leases (r : StreamRecord) :
    r.selected.params = r.params ∧ r.selected.leaseRemaining = r.leaseRemaining ∧
    r.selected.amendment = r.amendment := by
  unfold StreamRecord.selected
  split <;> exact ⟨rfl, rfl, rfl⟩

theorem length_streamPollFrame (n : Node) (channel : Nat) (d : Direction) (bit resync hold : Bool) (len : Nat)
    (value : List Byte) : (streamPollFrame n channel d bit resync hold len value).length = 7 + value.length := by
  simp [streamPollFrame, length_withCrc]
  omega

theorem State.soundStep_startStreamPoll {s : State} {h : Handle} {r : StreamRecord} {phase : Phase}
    (hr : s.record h = some r) (turn : s.turn phase = true) (hp : phase = .cyclic ∨ phase = .retry)
    (fits : s.FlightSound → s.fitsGuard (slotCost s.trunk.applied.w r.params.len) = true) :
    s.SoundStep (s.startStreamPoll h r) := by
  obtain ⟨cycle, ph, idle⟩ := State.turn_iff.1 turn
  have inPhase {q : Poll} (hq : ∀ ph, q.inPhase ph = (ph == .cyclic || ph == .retry)) :
      q.inPhase s.trunk.phase = true := by
    rw [hq, ph]
    obtain rfl | rfl := hp <;> rfl
  have counted : s.Calm (s.updEntry h fun e => { e with attempts := e.attempts + 1, disposition := .inFlight }) :=
    s.calm_sched _
  obtain ⟨params, remaining, amendment⟩ := r.selected_leases
  have selected : s.Calm ((s.updEntry h fun e => { e with attempts := e.attempts + 1, disposition := .inFlight
      }).setRecord h (some r.selected)) :=
    counted.trans (State.calm_setRecord (r := r) hr params remaining (.inl amendment) (by rw [r.selected_state]))
  unfold State.startStreamPoll
  dsimp only
  split
  · refine counted.soundStep.trans (State.soundStep_startExchange idle cycle (inPhase fun _ => rfl) ?_ fun hf =>
      fits (hf.of_same (by rfl) (by rfl)))
    simp only [length_streamPollFrame, slotCost, List.length_nil, State.trunk_updEntry]
    omega
  · split
    · refine selected.soundStep.trans (State.soundStep_startExchange idle cycle (inPhase fun _ => rfl) ?_ fun hf =>
        fits (hf.of_same (by rfl) (by rfl)))
      simp only [length_streamPollFrame, slotCost, List.length_nil, State.trunk_setRecord, State.trunk_updEntry]
      omega
    · refine selected.soundStep.trans (State.soundStep_startExchange idle cycle (inPhase fun _ => rfl) ?_ fun hf =>
        fits (hf.of_same (by rfl) (by rfl)))
      have value := s.length_currentBytes_le r.selected
      rw [params] at value
      simp only [length_streamPollFrame, slotCost, State.trunk_setRecord, State.trunk_updEntry]
      omega

/-! ### The turns -/

theorem State.calm_passOver (s : State) : s.Calm s.passOver := by
  unfold State.passOver
  refine State.calm_foldl (fun t e => ?_) _ s
  split
  · exact t.calm_excuse _
  · exact .refl t

theorem State.Calm.turn {s t : State} (h : s.Calm t) (trunk : t.trunk = s.trunk) (phase : Phase) :
    t.turn phase = s.turn phase := by
  simp only [State.turn, State.inCycle, trunk, h.engine]

theorem State.calm_setPhase {s : State} (ph : Phase) (idle : s.engine.state.inFlight = none) :
    s.Calm (s.updTrunk fun u => { u with phase := ph }) :=
  s.calm_updTrunk _ rfl rfl rfl rfl (.inl idle)

theorem State.calm_crowdOut {s : State} (idle : s.engine.state.inFlight = none) : s.Calm s.crowdOut :=
  (State.calm_setPhase .retry idle).trans (State.calm_sched _ _)

theorem State.calm_dropRetries (s : State) : s.Calm s.dropRetries := s.calm_sched _

theorem State.soundStep_turnCyclic {s : State} (turn : s.turn .cyclic = true) : s.SoundStep s.turnCyclic := by
  unfold State.turnCyclic
  split
  · exact s.calm_advance.soundStep
  · split
    · exact .refl s
    · split
      · exact .refl s
      · next hr =>
        split
        · next hf => exact State.soundStep_startStreamPoll hr turn (.inl rfl) fun _ => hf
        · exact ((State.calm_crowdOut (State.turn_iff.1 turn).2.2).trans (State.calm_advance _)).soundStep

theorem State.soundStep_turnRetry {s : State} (turn : s.turn .retry = true) : s.SoundStep s.turnRetry := by
  unfold State.turnRetry
  split
  · exact s.calm_advance.soundStep
  · split
    · exact .refl s
    · split
      · exact .refl s
      · next h rest _ _ _ r hr =>
        split
        · next hf =>
          exact (s.calm_sched ⟨s.sched.due, rest, s.sched.entries⟩).soundStep.trans
            (State.soundStep_startStreamPoll (s := { s with sched := ⟨s.sched.due, rest, s.sched.entries⟩ }) hr turn
              (.inr rfl) fun hs => State.fitsGuard_of_fitsRetry hs.config hf)
        · exact (s.calm_dropRetries.trans (State.calm_advance _)).soundStep

theorem State.calm_toPieces {s : State} (idle : s.engine.state.inFlight = none) : s.Calm s.toPieces :=
  (State.calm_setPhase .pieces idle).trans (State.calm_advance _)

theorem State.soundStep_startProbe {s : State} {n : Node} (turn : s.turn .probes = true)
    (fits : s.fitsGuard (probeSlot s.trunk.applied.w) = true) : s.SoundStep (s.startProbe n) := by
  obtain ⟨cycle, phase, idle⟩ := State.turn_iff.1 turn
  refine (s.calm_lists _ _ _ _ _).soundStep.trans (State.soundStep_startExchange idle cycle ?_ ?_ fun _ => fits)
  · show (s.trunk.phase == .probes) = true
    rw [phase]
    rfl
  · simp only [probeFrame, length_withCrc, List.length_cons, List.length_nil, probeSlot]
    omega

theorem State.soundStep_turnProbe {s : State} (turn : s.turn .probes = true) : s.SoundStep s.turnProbe := by
  have passed : s.SoundStep s.toPieces := (State.calm_toPieces (State.turn_iff.1 turn).2.2).soundStep
  unfold State.turnProbe
  split
  · exact passed
  · split
    · exact passed
    · split
      · exact .refl s
      · split
        · next hf => exact State.soundStep_startProbe turn hf
        · exact passed

theorem State.soundStep_startPiece {s : State} {id : ReqId} {q : Request} (turn : s.turn .pieces = true)
    (fits : s.fitsGuard (pieceSlot s.trunk.applied.w q.pieceCount) = true) : s.SoundStep (s.startPiece id q) := by
  obtain ⟨cycle, phase, idle⟩ := State.turn_iff.1 turn
  refine State.soundStep_start idle rfl rfl rfl rfl fun hs => ?_
  refine State.flightSound_startExchange (s := s.setRequest id _) (hs.of_same (by rfl) (by rfl)) cycle ?_ ?_ fits
  · show (s.trunk.phase == .pieces) = true
    rw [phase]
    rfl
  · have data := s.length_pieceData_le id q
    simp only [piecePollFrame, length_withCrc, List.length_append, List.length_cons, List.length_nil, length_be16,
      pieceSlot, State.trunk_setRequest]
    omega

theorem State.soundStep_turnPiece {s : State} (turn : s.turn .pieces = true) : s.SoundStep s.turnPiece := by
  have ended : s.SoundStep s.endAcyclic := (State.calm_setPhase .over (State.turn_iff.1 turn).2.2).soundStep
  unfold State.turnPiece
  split
  · exact ended
  · split
    · exact ended
    · split
      · exact .refl s
      · split
        · exact .refl s
        · split
          · next hf => exact State.soundStep_startPiece turn hf
          · exact ended

/-! ### The ends of exchanges -/

theorem State.calm_placePayload (s : State) (p : Poll) (payload : List Byte) : s.Calm (s.placePayload p payload) := by
  unfold State.placePayload
  split
  · split
    · exact s.calm_storeBytes _ _
    · exact .refl s
  · exact s.calm_storeBytes _ _
  · exact State.Apart.calm ⟨rfl, rfl, rfl, rfl, rfl, rfl⟩ rfl
  · exact .refl s

theorem State.calm_placeArrived (s : State) : s.Calm s.placeArrived := by
  obtain ⟨x, start, -, e⟩ | ⟨-, e⟩ := s.placeArrived_cases <;> rw [e]
  · have placed := s.calm_placePayload x.poll (replyPayload x.poll (Config.arrivedBytes s.freeIndex))
    have counted := placed.trans (State.calm_countFree _)
    rwa [show (s.placePayload x.poll (replyPayload x.poll (Config.arrivedBytes s.freeIndex))).freeIndex = s.freeIndex by
      simp] at counted
  · exact .refl s

theorem StreamRecord.okValues_leases (r : StreamRecord) (p : Poll) (cycle : Nat) :
    (r.okValues p cycle).params = r.params ∧ (r.okValues p cycle).leaseRemaining = r.leaseRemaining ∧
    (r.okValues p cycle).amendment = r.amendment := by
  unfold StreamRecord.okValues
  split <;> exact ⟨rfl, rfl, rfl⟩

theorem State.calm_retryOrGiveUp (s : State) (h : Handle) (r : StreamRecord) : s.Calm (s.retryOrGiveUp h r) := by
  unfold State.retryOrGiveUp
  split
  · exact (s.calm_sched _).trans (State.calm_sched (s.setDisposition h .retryWait) _)
  · exact s.calm_sched _

theorem State.calm_serveRecord {s : State} {h : Handle} {r : StreamRecord} (p : Poll) (o : ExchangeOutcome)
    (hr : s.record h = some r) (ha : r.state = .active) : s.Calm (s.serveRecord h r p o) := by
  unfold State.serveRecord
  cases o with
  | ok =>
    obtain ⟨params, remaining, amendment⟩ := r.okValues_leases p s.trunk.cycle.toNat
    have kept : s.Calm (s.setRecord h (some (r.okValues p s.trunk.cycle.toNat).countServed)) :=
      State.calm_setRecord hr params remaining (.inl amendment) (Eq.congr_left (r.okValues_state p _))
    exact kept.trans (State.calm_sched _ _)
  | duplicate =>
    have kept : s.Calm (s.setRecord h (some r.countServed.countDuplicate)) :=
      State.calm_setRecord hr rfl rfl (.inl rfl) Iff.rfl
    exact kept.trans (State.calm_sched _ _)
  | deferred =>
    have kept : s.Calm (s.setRecord h (some { r with resync := false })) :=
      State.calm_setRecord hr rfl rfl (.inl rfl) Iff.rfl
    exact kept.trans (State.calm_sched _ _)
  | refused =>
    have kept : s.Calm (s.setRecord h (some { r with state := .faulted, resync := false })) :=
      State.calm_setRecord hr rfl rfl (.inl rfl) (by simp [ha])
    exact (kept.trans (State.calm_excuse _ h)).trans (State.calm_raise _ _ _ _)
  | timeout => exact s.calm_retryOrGiveUp h r
  | crcError => exact s.calm_retryOrGiveUp h r
  | badLength => exact s.calm_retryOrGiveUp h r
  | overlong => exact s.calm_retryOrGiveUp h r

/-- What a record's service result leaves: calm free_of its record is CLOSING, which it frees. -/
theorem State.serviceResult_cases (s : State) (h : Handle) (p : Poll) (o : ExchangeOutcome) :
    (¬s.Closing h ∧ s.Calm (s.serviceResult h p o)) ∨ ∃ r, s.serviceResult h p o = s.endClosing h r := by
  unfold State.serviceResult
  split
  · next hr => exact .inl ⟨fun ⟨r, hr', _⟩ => absurd (hr.symm.trans hr') nofun, .refl s⟩
  · next r hr =>
    have free_of {c : StreamState} (hc : r.state = c) (hn : c ≠ .closing) : ¬s.Closing h := fun k =>
      hn (hc.symm.trans ((State.closing_iff_of_record hr).1 k))
    split
    · next ha => exact .inl ⟨free_of ha nofun, State.calm_serveRecord p o hr ha⟩
    · exact .inr ⟨r, rfl⟩
    · next hs => exact .inl ⟨free_of hs nofun, .refl s⟩
    · next hs => exact .inl ⟨free_of hs nofun, .refl s⟩

theorem State.portsFor_serviceResult {s : State} {x : Exchange} {h : Handle} {c : Option Port} (p : Poll)
    (o : ExchangeOutcome) (hs : s.PortsFor (some x) c) (hx : x.poll.handle? = some h) :
    (s.serviceResult h p o).PortsFor none c := by
  obtain ⟨hc, calm⟩ | ⟨r, e⟩ := s.serviceResult_cases h p o
  · exact calm.portsFor_ended hs (hs.parked.none_of_not_closing hx hc)
  · rw [e]
    exact State.portsFor_endClosing hs hx

theorem State.leasesFor_serviceResult {s : State} {x : Exchange} {h : Handle} (p : Poll) (o : ExchangeOutcome)
    (idle : s.engine.state.inFlight = none) (hs : s.LeasesFor (some x)) (hx : x.poll.handle? = some h) :
    (s.serviceResult h p o).LeasesFor none := by
  obtain ⟨hc, calm⟩ | ⟨r, e⟩ := s.serviceResult_cases h p o
  · exact calm.leases none (fun k hk => by rw [State.recordInFlight_eq, idle] at hk; exact hk) (hs.ended hx hc)
  · rw [e]
    exact State.leasesFor_endClosing hs hx

theorem State.calm_pieceOk {s : State} {id : ReqId} (q : Request) (n : Nat) (hc : ¬s.Cancelling id) :
    s.Calm (s.pieceOk id q n) := by
  unfold State.pieceOk
  dsimp only
  split
  · exact ((s.calm_leaveQueue id).trans (State.calm_setRequest _ id _ (State.not_cancelling_leaveQueue hc))).trans
      (State.calm_raise _ _ _ _)
  · exact s.calm_setRequest id _ hc

theorem State.calm_pieceDeferred {s : State} {id : ReqId} (q : Request) (hc : ¬s.Cancelling id) :
    s.Calm (s.pieceDeferred id q) := by
  unfold State.pieceDeferred
  dsimp only
  split
  · exact State.calm_failRequest _ _ hc
  · exact (s.calm_setRequest id _ hc).trans (State.calm_lists _ _ _ _ _ _)

theorem State.calm_pieceUnanswered {s : State} {id : ReqId} (q : Request) (hc : ¬s.Cancelling id) :
    s.Calm (s.pieceUnanswered id q) := by
  unfold State.pieceUnanswered
  dsimp only
  split
  · exact State.calm_failRequest _ _ hc
  · exact s.calm_setRequest id _ hc

/-- What a piece's outcome leaves: calm free_of its request is CANCELLING, which it frees. -/
theorem State.pieceResult_cases (s : State) (id : ReqId) (n : Nat) (o : ExchangeOutcome) :
    (¬s.Cancelling id ∧ s.Calm (s.pieceResult id n o)) ∨ ∃ q, s.pieceResult id n o = s.endCancelling id q := by
  unfold State.pieceResult
  split
  · next hq => exact .inl ⟨State.not_cancelling_of_free hq, .refl s⟩
  · next q hq =>
    have free_of (hn : q.state ≠ .cancelling) : ¬s.Cancelling id := State.not_cancelling_of_state hq hn
    split
    · next ha =>
      have free := free_of (by simp [ha])
      refine .inl ⟨free, ?_⟩
      cases o with
      | ok | duplicate => exact State.calm_pieceOk q n free
      | deferred => exact State.calm_pieceDeferred q free
      | refused => exact State.calm_failRequest q _ free
      | timeout | crcError | badLength | overlong => exact State.calm_pieceUnanswered q free
    · exact .inr ⟨q, rfl⟩
    · next hs => exact .inl ⟨free_of (by simp [hs]), .refl s⟩
    · next hs => exact .inl ⟨free_of (by simp [hs]), .refl s⟩
    · next hs => exact .inl ⟨free_of (by simp [hs]), .refl s⟩

theorem State.portsFor_pieceResult {s : State} {x : Exchange} {id : ReqId} {c : Option Port} (n : Nat)
    (o : ExchangeOutcome) (hs : s.PortsFor (some x) c) (hx : x.poll.reqId? = some id) :
    (s.pieceResult id n o).PortsFor none c := by
  obtain ⟨hc, calm⟩ | ⟨q, e⟩ := s.pieceResult_cases id n o
  · exact calm.portsFor_ended hs (hs.parked.none_of_not_cancelling hx hc)
  · rw [e]
    exact State.portsFor_endCancelling hs hx

theorem State.leasesFor_pieceResult {s : State} {f : Option Exchange} (id : ReqId) (n : Nat) (o : ExchangeOutcome)
    (hs : s.LeasesFor f) : (s.pieceResult id n o).LeasesFor f :=
  hs.of_table (by simp)

/-- The roster's report keeps the leases, and no exchange is in flight any more. -/
theorem State.Calm.leasesFor_of_idle {s t : State} (h : s.Calm t) {f : Option Exchange}
    (idle : s.engine.state.inFlight = none) (hs : s.LeasesFor f) : t.LeasesFor f :=
  h.leases f (fun k hk => by rw [State.recordInFlight_eq, idle] at hk; cases hk) hs

theorem State.portsFor_endPiece {s : State} {x : Exchange} {id : ReqId} {c : Option Port} (n : Nat) (m : Node)
    (o : ExchangeOutcome) (hs : s.PortsFor (some x) c) (hx : x.poll.reqId? = some id) :
    (s.endPiece id n m o).PortsFor none c := by
  have counted := s.calm_countFree.portsFor hs
  unfold State.endPiece
  dsimp only
  split
  · split
    · exact State.portsFor_pieceResult n o ((State.calm_report _ m o).portsFor counted) hx
    · exact (State.calm_report _ m o).portsFor (State.portsFor_pieceResult n o counted hx)
  · exact State.portsFor_pieceResult n o ((State.calm_report _ m o).portsFor hs) hx

theorem State.leasesFor_endPiece {s : State} {f : Option Exchange} (id : ReqId) (n : Nat) (m : Node)
    (o : ExchangeOutcome) (idle : s.engine.state.inFlight = none) (hs : s.LeasesFor f) :
    (s.endPiece id n m o).LeasesFor f := by
  have counted := s.calm_countFree.leasesFor_of_idle idle hs
  unfold State.endPiece
  dsimp only
  split
  · split
    · exact State.leasesFor_pieceResult id n o ((State.calm_report _ m o).leasesFor_of_idle idle counted)
    · exact (State.calm_report _ m o).leasesFor_of_idle (by simpa using idle)
        (State.leasesFor_pieceResult id n o counted)
  · exact State.leasesFor_pieceResult id n o ((State.calm_report _ m o).leasesFor_of_idle idle hs)

theorem State.calm_probeRemoved (s : State) (n : Node) : s.Calm (s.probeRemoved n) := by
  unfold State.probeRemoved
  dsimp only
  split
  · exact (s.calm_lists _ _ _ _ _).trans (State.calm_raiseBoth _ _)
  · exact s.calm_lists _ _ _ _ _

theorem State.calm_endProbe (s : State) (n : Node) (o : ExchangeOutcome) : s.Calm (s.endProbe n o) := by
  unfold State.endProbe
  dsimp only
  refine State.Calm.trans ?_ (State.calm_probeRemoved _ n)
  split
  · exact s.calm_reportAnswered n _
  · exact s.calm_reportUnansweredProbe n

/-- The reports that an exchange's end makes, before the phases move on. -/
def State.reported (s : State) (x : Exchange) (o : ExchangeOutcome) : State :=
  match x.poll with
  | .collect h _ _ _ => (s.report x.node o).serviceResult h x.poll o
  | .value h _ _ _ => (s.report x.node o).serviceResult h x.poll o
  | .hold h _ _ _ => (s.report x.node o).serviceResult h x.poll o
  | .probe => s.endProbe x.node o
  | .piece id _ _ n => s.endPiece id n x.node o

theorem State.endExchange_eq (s : State) (x : Exchange) (o : ExchangeOutcome) :
    s.endExchange x o = (s.reported x o).advance := by
  unfold State.endExchange State.reported
  cases x.poll <;> rfl

/-- The three kinds of report, by what the poll serves. -/
theorem State.reported_cases (s : State) (x : Exchange) (o : ExchangeOutcome) :
    (∃ h, x.poll.handle? = some h ∧ s.reported x o = (s.report x.node o).serviceResult h x.poll o) ∨
    (∃ id n, x.poll.reqId? = some id ∧ s.reported x o = s.endPiece id n x.node o) ∨
    (x.poll.handle? = none ∧ x.poll.reqId? = none ∧ s.reported x o = s.endProbe x.node o) := by
  unfold State.reported
  cases hp : x.poll with
  | collect h _ _ _ => exact .inl ⟨h, rfl, rfl⟩
  | value h _ _ _ => exact .inl ⟨h, rfl, rfl⟩
  | hold h _ _ _ => exact .inl ⟨h, rfl, rfl⟩
  | probe => exact .inr (.inr ⟨rfl, rfl, rfl⟩)
  | piece id _ _ n => exact .inr (.inl ⟨id, n, rfl, rfl⟩)

theorem State.frame_reported (s : State) (x : Exchange) (o : ExchangeOutcome) :
    (s.reported x o).trunk = s.trunk ∧ (s.reported x o).engine = s.engine ∧ (s.reported x o).pending = s.pending := by
  obtain ⟨h, -, e⟩ | ⟨id, n, -, e⟩ | ⟨-, -, e⟩ := s.reported_cases x o <;> rw [e] <;> simp

theorem State.portsFor_reported {s : State} {x : Exchange} {c : Option Port} (o : ExchangeOutcome)
    (hs : s.PortsFor (some x) c) : (s.reported x o).PortsFor none c := by
  obtain ⟨h, hx, e⟩ | ⟨id, n, hx, e⟩ | ⟨hh, hq, e⟩ := s.reported_cases x o <;> rw [e]
  · exact State.portsFor_serviceResult _ o ((State.calm_report _ _ o).portsFor hs) hx
  · exact State.portsFor_endPiece n _ o hs hx
  · exact (s.calm_endProbe x.node o).portsFor_ended hs (hs.parked.none_of_unserving
      (fun k => by simp [servesRecord, hh]) fun k => by simp [servesRequest, hq])

theorem State.leasesFor_reported {s : State} {x : Exchange} (o : ExchangeOutcome)
    (idle : s.engine.state.inFlight = none) (hs : s.LeasesFor (some x)) : (s.reported x o).LeasesFor none := by
  obtain ⟨h, hx, e⟩ | ⟨id, n, hx, e⟩ | ⟨hh, -, e⟩ := s.reported_cases x o <;> rw [e]
  · exact State.leasesFor_serviceResult _ o (by simpa using idle)
      ((State.calm_report _ _ o).leasesFor_of_idle idle hs) hx
  · exact State.leasesFor_endPiece id n _ o idle
      (hs.ended_of_unserving fun k => by simp [servesRecord, Poll.handle?_of_reqId? hx])
  · exact (s.calm_endProbe x.node o).leasesFor_of_idle idle
      (hs.ended_of_unserving fun k => by simp [servesRecord, hh])

/-- The exchange in flight ends: the engine is left without one, and what waited for it is answered. -/
theorem State.soundStep_endExchange {s : State} {x : Exchange} {e : EngineState} (o : ExchangeOutcome)
    (hx : s.engine.state.inFlight = some x) (he : e.inFlight = none) :
    s.SoundStep ((s.setEngine e).endExchange x o) := by
  have moved : s.Unmoved (s.setEngine e) := ⟨rfl, rfl, rfl, rfl, rfl⟩
  obtain ⟨trunk, engine, pending⟩ := (s.setEngine e).frame_reported x o
  have idle : ((s.setEngine e).reported x o).engine.state.inFlight = none := by rw [engine]; exact he
  have reported : s.SoundStep ((s.setEngine e).reported x o) := by
    refine ⟨pending, fun hs => ?_, fun _ hl => ?_, fun c hp => ?_⟩
    · refine State.flightSound_of_idle (hs.config.of_eq (by rw [trunk]; rfl) (by rw [trunk]; rfl)) (fun hc => ?_) idle
      rw [trunk]
      exact hs.timer ((State.inCycle_of_state (s := s) (by rw [trunk]; rfl)).symm.trans hc)
    · rw [hx] at hl
      rw [idle]
      exact State.leasesFor_reported o he (moved.leasesFor hl)
    · rw [hx] at hp
      rw [idle]
      exact State.portsFor_reported o (moved.portsFor hp)
  rw [State.endExchange_eq]
  exact reported.trans (State.calm_advance _).soundStep

/-! ### Outcomes -/

/-- Each next state that an outcome can be is soundly reached. -/
def State.StepsSoundly (s : State) (o : Host.Outcome State Fault Refusal) : Prop := ∃ t, o = .next t ∧ s.SoundNext t

theorem State.SoundNext.steps {s t : State} (h : s.SoundNext t) : s.StepsSoundly (.next t) := ⟨t, rfl, h⟩

theorem State.SoundStep.steps {s t : State} (h : s.SoundStep t) : s.StepsSoundly (.next t) := h.soundNext.steps

theorem State.stepsSoundly_self (s : State) : s.StepsSoundly (.next s) := (State.SoundStep.refl s).steps

/-! ### The trunk events -/

theorem stepsSoundly_lfaultAsserted (s : State) : s.StepsSoundly (execLfaultAsserted s) := by
  have level : s.Calm { s with pins := { s.pins with lfault := true } } :=
    State.Apart.calm ⟨rfl, rfl, rfl, rfl, rfl, rfl⟩ rfl
  unfold execLfaultAsserted
  dsimp only
  split
  · exact level.soundStep.steps
  · exact ((level.trans (State.calm_placeArrived _)).soundStep.trans (State.soundStep_enterFaulted _ _)).steps

theorem stepsSoundly_restartMarkDue (s : State) : s.StepsSoundly (execRestartMarkDue s) := by
  unfold execRestartMarkDue
  split
  · next h => exact (State.soundStep_restartMarkFallsDue (by simp [State.inCycle, h.1])).steps
  · exact s.stepsSoundly_self

theorem stepsSoundly_restartMarkEnd (s : State) : s.StepsSoundly (execRestartMarkEnd s) := by
  have released : s.Calm ((s.updTrunk fun u => { u with clock := 8 }).setTx none) :=
    (s.calm_setClock 8).trans (State.calm_setTx _ _)
  unfold execRestartMarkEnd
  dsimp only
  split
  · next h =>
    split
    · refine (released.soundStep.trans (State.soundStep_enterHalted fun hs => hs.idle_of_not_inCycle ?_)).steps
      exact (State.inCycle_of_state released.state).trans (by simp [State.inCycle, h.1])
    · exact released.soundStep.steps
  · exact s.stepsSoundly_self

/-- A mark falls due with no exchange in flight: in SYNCING there is no cycle, in RUNNING its slot has ended. -/
theorem State.idle_of_cycleMarkDue {s : State} (hd : s.cycleMarkDue = true) (hs : s.FlightSound) :
    s.engine.state.inFlight = none :=
  hs.idle_of_timerDue (by simp only [State.cycleMarkDue, Bool.and_eq_true] at hd; exact hd.2)

theorem State.state_of_cycleMarkDue {s : State} (hd : s.cycleMarkDue = true) :
    s.trunk.state = .running ∨ s.trunk.state = .syncing := by
  simp only [State.cycleMarkDue, Bool.and_eq_true, Bool.or_eq_true, beq_iff_eq] at hd
  exact hd.1.imp_right And.left

theorem stepsSoundly_cycleMarkDue (s : State) : s.StepsSoundly (execCycleMarkDue s) := by
  unfold execCycleMarkDue
  split
  · exact s.stepsSoundly_self
  · next hd =>
    have due : s.cycleMarkDue = true := by simpa using hd
    split
    · exact (s.soundStep_enterFaulted _).steps
    · exact (State.soundStep_beginCycleMark (State.idle_of_cycleMarkDue due) (State.state_of_cycleMarkDue due)).steps

theorem stepsSoundly_cycleMarkEnd (s : State) : s.StepsSoundly (execCycleMarkEnd s) := by
  unfold execCycleMarkEnd
  split
  · next h =>
    have cyclic : s.SoundStep (s.updTrunk fun u => { u with clock := 8, phase := .cyclic }) :=
      State.Unmoved.soundStep ⟨rfl, rfl, rfl, rfl, rfl⟩ rfl fun hs =>
        State.flightSound_of_idle (hs.config.of_eq (by rfl) (by rfl)) hs.timer (hs.idle_of_mark h.2)
    exact (cyclic.trans ((State.calm_setTx _ _).trans (State.calm_advance _)).soundStep).steps
  · exact s.stepsSoundly_self

theorem stepsSoundly_drainEnd (s : State) : s.StepsSoundly (execDrainEnd s) := by
  unfold execDrainEnd
  split
  · next h =>
    split
    · exact (s.soundStep_enterFaulted _).steps
    · exact (State.soundStep_enterHalted fun hs => hs.idle_of_timerDue h.2).steps
  · exact s.stepsSoundly_self

theorem stepsSoundly_guardStart (s : State) : s.StepsSoundly (execGuardStart s) := by
  unfold execGuardStart
  split
  · exact ((s.calm_updTrunk (fun u => { u with clock := s.guardMoment, guard := true }) rfl rfl rfl rfl (.inr rfl)).trans
      (State.calm_advance _)).soundStep.steps
  · exact s.stepsSoundly_self

/-! ### The schedulers' turns -/

theorem stepsSoundly_firstAttemptStart (s : State) : s.StepsSoundly (execFirstAttemptStart s) := by
  unfold execFirstAttemptStart
  split
  · next h =>
    have turn := (s.calm_passOver.turn (by simp) .cyclic).trans h
    exact (s.calm_passOver.soundStep.trans (State.soundStep_turnCyclic turn)).steps
  · exact s.stepsSoundly_self

theorem stepsSoundly_retryStart (s : State) : s.StepsSoundly (execRetryStart s) := by
  unfold execRetryStart
  split
  · next h =>
    have turn := (s.calm_passOver.turn (by simp) .retry).trans h
    exact (s.calm_passOver.soundStep.trans (State.soundStep_turnRetry turn)).steps
  · exact s.stepsSoundly_self

theorem stepsSoundly_probeStart (s : State) : s.StepsSoundly (execProbeStart s) := by
  unfold execProbeStart
  split
  · next h => exact (State.soundStep_turnProbe h).steps
  · exact s.stepsSoundly_self

theorem stepsSoundly_pieceStart (s : State) : s.StepsSoundly (execPieceStart s) := by
  unfold execPieceStart
  split
  · next h => exact (State.soundStep_turnPiece h).steps
  · exact s.stepsSoundly_self

/-! ### The exchange events -/

/-- The engine moves on within its exchange, or between two. -/
theorem State.soundStep_setEngine {s : State} {e : EngineState} (same : e.inFlight = s.engine.state.inFlight) :
    s.SoundStep (s.setEngine e) :=
  State.Unmoved.soundStep ⟨rfl, rfl, rfl, rfl, rfl⟩ same fun hs => ⟨hs.config, hs.timer, fun x hx =>
    hs.flight x (same.symm.trans hx)⟩

theorem stepsSoundly_pollSent (s : State) : s.StepsSoundly (execPollSent s) := by
  unfold execPollSent
  split
  · next he =>
    split
    · exact (((s.calm_setClock _).soundStep.trans (State.soundStep_setEngine (by simp [he, EngineState.inFlight]))).trans
        (State.calm_setTx _ _).soundStep).steps
    · exact s.stepsSoundly_self
  all_goals exact s.stepsSoundly_self

theorem stepsSoundly_replyBegin (turnaround : Nat) (s : State) : s.StepsSoundly (execReplyBegin turnaround s) := by
  unfold execReplyBegin
  split
  · next he =>
    split
    · exact (((s.calm_setClock _).trans (State.calm_setRxd _ _)).soundStep.trans
        (State.soundStep_setEngine (by simp [he, EngineState.inFlight]))).steps
    · exact s.stepsSoundly_self
  all_goals exact s.stepsSoundly_self

theorem stepsSoundly_exchangeTimeout (s : State) : s.StepsSoundly (execExchangeTimeout s) := by
  unfold execExchangeTimeout
  split
  · next he =>
    split
    · exact ((s.calm_setClock _).soundStep.trans
        (State.soundStep_endExchange _ (by simp [he, EngineState.inFlight]) rfl)).steps
    · exact s.stepsSoundly_self
  all_goals exact s.stepsSoundly_self

theorem stepsSoundly_replyEnd (bytes : List Byte) (gaps : Nat) (s : State) :
    s.StepsSoundly (execReplyEnd bytes gaps s) := by
  unfold execReplyEnd
  split
  · next he =>
    dsimp only
    split
    · refine ((((s.calm_setClock _).trans (State.calm_placePayload _ _ _)).trans (State.calm_setRxd _
        false)).soundStep.trans (State.soundStep_endExchange _ ?_ rfl)).steps
      rw [State.engine_setRxd, (State.calm_placePayload _ _ _).engine, State.engine_setClock, he]
      rfl
    · exact s.stepsSoundly_self
  all_goals exact s.stepsSoundly_self

theorem stepsSoundly_slotEndOverlong (bytes : List Byte) (s : State) :
    s.StepsSoundly (execSlotEndOverlong bytes s) := by
  unfold execSlotEndOverlong
  split
  · next he =>
    split
    · refine (((s.calm_setClock _).trans (State.calm_placePayload _ _ _)).soundStep.trans
        (State.soundStep_endExchange _ ?_ rfl)).steps
      rw [(State.calm_placePayload _ _ _).engine, State.engine_setClock, he]
      rfl
    · exact s.stepsSoundly_self
  all_goals exact s.stepsSoundly_self

theorem stepsSoundly_quietingEnd (after : Nat) (s : State) : s.StepsSoundly (execQuietingEnd after s) := by
  unfold execQuietingEnd
  split
  · next he =>
    split
    · exact (((s.calm_setClock _).trans (State.calm_setRxd _ _)).soundStep.trans
        (State.soundStep_setEngine (by simp [he, EngineState.inFlight]))).steps
    · exact s.stepsSoundly_self
  all_goals exact s.stepsSoundly_self

theorem stepsSoundly_quietingBound (s : State) : s.StepsSoundly (execQuietingBound s) := by
  unfold execQuietingBound
  split
  · split
    · exact (s.soundStep_enterFaulted _).steps
    · exact s.stepsSoundly_self
  all_goals exact s.stepsSoundly_self

theorem stepsSoundly_strayBytes (elapsed : Nat) (receiving : Bool) (s : State) :
    s.StepsSoundly (execStrayBytes elapsed receiving s) := by
  unfold execStrayBytes
  dsimp only
  split
  · split
    · exact (s.calm_setRxd _).soundStep.steps
    · split
      · exact ((s.calm_setRxd _).trans (State.calm_setClock _ _)).soundStep.steps
      · exact s.stepsSoundly_self
  · exact s.stepsSoundly_self

/-! ### The port events -/

theorem stepsSoundly_badCommand (p : Port) (s : State) : s.StepsSoundly (execBadCommand p s) := by
  unfold execBadCommand
  split
  · exact s.stepsSoundly_self
  · next c t ht =>
    obtain ⟨rest, hw, -, -, rfl⟩ := State.takeCommand_eq_some.1 ht
    refine State.SoundNext.steps ⟨rfl, fun hs => hs.of_same (by rfl) (by rfl), fun _ hl => hl.of_table (by rfl),
      fun hp => ?_⟩
    exact (hp.taken hw).composed

/-- The ports and the arbiter change alone: what is left to show is that the commands in hand agree. -/
theorem State.soundNext_of_hands {s : State} {ports : PerPort HostPort} {arbiter : Arbiter}
    (hands : s.HandsTrue none → ({ s with ports := ports, arbiter := arbiter } : State).HandsTrue none)
    (parked : arbiter.parked = s.arbiter.parked) : s.SoundNext { s with ports := ports, arbiter := arbiter } :=
  ⟨rfl, fun hs => hs.of_same (by rfl) (by rfl), fun _ hl => hl.of_table (by rfl), fun hp => ⟨hands hp.hands,
    fun k hk => by
      have awaits := hp.parked k (parked ▸ hk)
      cases hkind : k.kind <;> rw [hkind] at awaits <;> exact awaits⟩⟩

/-- One port changes: its commands in hand agree with its new state, and what it shows is what it holds. -/
theorem State.handsTrue_put {s : State} {p : Port} {h : HostPort} {arbiter : Arbiter} (hs : s.HandsTrue none)
    (hand : ({ s with arbiter := arbiter } : State).inHand p = if h.state = .working then 1 else 0)
    (others : ∀ q, q ≠ p → ({ s with arbiter := arbiter } : State).inHand q = s.inHand q)
    (shown : ∀ status frame, h.txn = .active status (some (true, frame)) → h.state = .resultReady frame) :
    ({ s with ports := s.ports.put p h, arbiter := arbiter } : State).HandsTrue none where
  hand q := by
    change ({ s with arbiter := arbiter } : State).inHand q + 0 =
      if ((s.ports.put p h).get q).state = .working then 1 else 0
    by_cases e : q = p
    · rw [e, PerPort.get_put_same]
      exact hand
    · rw [PerPort.get_put_other _ _ _ _ e, others q e]
      exact hs.hand q
  shown q status frame hq := by
    by_cases e : q = p
    · subst e
      simp only [PerPort.get_put_same] at hq ⊢
      exact shown status frame hq
    · simp only [PerPort.get_put_other _ _ _ _ e] at hq ⊢
      exact hs.shown q status frame hq

/-- A port that stays WORKING or stays not, showing nothing held that it does not hold. -/
theorem State.soundNext_updPort {s : State} {p : Port} {f : HostPort → HostPort}
    (state : s.HandsTrue none → ((f (s.ports.get p)).state = .working ↔ (s.ports.get p).state = .working))
    (shown : s.HandsTrue none → ∀ status frame, (f (s.ports.get p)).txn = .active status (some (true, frame)) →
      (f (s.ports.get p)).state = .resultReady frame) : s.SoundNext (s.updPort p f) :=
  State.soundNext_of_hands (arbiter := s.arbiter) (fun hs =>
    State.handsTrue_put hs (by simpa [state hs] using hs.hand p) (fun _ _ => rfl) (shown hs)) rfl

theorem State.soundNext_selRises (s : State) (p : Port) : s.SoundNext (s.selRises p) :=
  State.soundNext_updPort (fun _ => Iff.rfl) fun _ _ _ h => by cases h

theorem State.soundNext_frameError (s : State) (p : Port) : s.SoundNext (s.frameError p) :=
  State.soundNext_updPort (fun _ => Iff.rfl) fun _ _ _ h => by cases h

theorem stepsSoundly_selFalls (p : Port) (s : State) : s.StepsSoundly (execSelFalls p s) := by
  unfold execSelFalls
  split
  · exact (State.soundNext_updPort (fun _ => Iff.rfl) fun _ _ _ h => by cases h).steps
  all_goals exact s.stepsSoundly_self

theorem HostPort.state_of_response {h : HostPort} {frame : List Byte} (hr : h.response = (true, frame)) :
    h.state = .resultReady frame := by
  unfold HostPort.response at hr
  split at hr
  · next hs => cases hr; exact hs
  · cases hr
  · cases hr

theorem stepsSoundly_kindByteWhole (p : Port) (s : State) : s.StepsSoundly (execKindByteWhole p s) := by
  unfold execKindByteWhole
  split
  · refine (State.soundNext_updPort (fun _ => Iff.rfl) fun _ status frame h => ?_).steps
    simp only [Transaction.active.injEq, Option.some.injEq] at h
    exact HostPort.state_of_response h.2
  all_goals exact s.stepsSoundly_self

theorem port_of_readCommandFrame {p : Port} {sent : List Byte} {c : Command} (h : readCommandFrame p sent = some c) :
    c.port = p := by
  unfold readCommandFrame at h
  split at h
  · dsimp only at h
    split at h
    · cases h; rfl
    · cases h
  · cases h

theorem State.inHand_waiting (s : State) (c : Command) (q : Port) :
    ({ s with arbiter := { s.arbiter with waiting := s.arbiter.waiting ++ [c] } } : State).inHand q =
      s.inHand q + if c.port = q then 1 else 0 := by
  by_cases h : c.port = q <;> simp [State.inHand, h, Nat.add_right_comm]

/-- A command taken by the arbiter from a port that had none in hand. -/
theorem State.soundNext_frameTaken {s : State} {p : Port} {c : Command} {h : HostPort} (hc : c.port = p)
    (free : (s.ports.get p).state ≠ .working) (working : h.state = .working) (high : h.txn = .high) :
    s.SoundNext { s with ports := s.ports.put p h
                         arbiter := { s.arbiter with waiting := s.arbiter.waiting ++ [c] } } :=
  State.soundNext_of_hands (fun hs => State.handsTrue_put hs
    (by
      have hand := hs.hand p
      rw [if_neg free] at hand
      rw [State.inHand_waiting, if_pos hc, if_pos working]
      simp at hand
      omega)
    (fun q hq => by rw [State.inHand_waiting, if_neg (hc ▸ hq.symm)]; rfl)
    (fun status frame hshow => by rw [high] at hshow; cases hshow)) rfl

theorem State.soundNext_judgeFrame {s : State} {p : Port} {c : Command} (hc : c.port = p) :
    s.SoundNext (s.judgeFrame p c) := by
  unfold State.judgeFrame
  dsimp only
  split
  · next hs => exact State.soundNext_frameTaken hc (by simp [hs]) rfl rfl
  · next hs => exact State.soundNext_frameTaken hc (by simp [hs]) rfl rfl
  · exact State.soundNext_updPort (fun _ => Iff.rfl) fun _ _ _ h => by cases h

theorem stepsSoundly_commandTransaction (p : Port) (sent : List Byte) (s : State) :
    s.StepsSoundly (execCommandTransaction p sent s) := by
  unfold execCommandTransaction
  split
  · split
    · next hc => exact (State.soundNext_judgeFrame (port_of_readCommandFrame hc)).steps
    · exact (s.soundNext_frameError p).steps
  · exact (s.soundNext_selRises p).steps
  all_goals exact s.stepsSoundly_self

theorem State.soundNext_resultTaken {s : State} {p : Port} {status : Byte} {frame : List Byte}
    (ht : (s.ports.get p).txn = .active status (some (true, frame))) : s.SoundNext (s.resultTaken p) :=
  State.soundNext_updPort (fun hs => by simp [hs.shown p status frame ht]) fun _ _ _ h => by cases h

theorem stepsSoundly_resultTransaction (p : Port) (clocked : Nat) (s : State) :
    s.StepsSoundly (execResultTransaction p clocked s) := by
  unfold execResultTransaction
  split
  · next ht =>
    split
    · next h => exact (State.soundNext_resultTaken (by rw [ht, h.1])).steps
    · exact (s.soundNext_selRises p).steps
  · exact (s.soundNext_selRises p).steps
  all_goals exact s.stepsSoundly_self

theorem stepsSoundly_transactionNotTaken (p : Port) (sent : List Byte) (s : State) :
    s.StepsSoundly (execTransactionNotTaken p sent s) := by
  unfold execTransactionNotTaken
  split
  · split
    · exact (s.soundNext_frameError p).steps
    · exact s.stepsSoundly_self
  · exact (s.soundNext_selRises p).steps
  all_goals exact s.stepsSoundly_self

/-! ### PORT_RESET -/

theorem State.calm_retireOwned (p : Port) (s : State) (h : Handle) : s.Calm (State.retireOwned p s h) := by
  unfold State.retireOwned
  split
  · exact .refl s
  · next r hr =>
    split
    · exact State.calm_retire hr
    · exact .refl s

theorem State.calm_cancelOwned (p : Port) (s : State) (id : ReqId) : s.Calm (State.cancelOwned p s id) := by
  unfold State.cancelOwned
  split
  · exact .refl s
  · next q hq =>
    split
    · exact State.calm_cancel hq
    · exact .refl s

/-- The state in which a session's records and requests end, but for the port, its attention and the phases. -/
def State.withdrawn (s : State) (p : Port) : State :=
  reqIds.foldl (State.cancelOwned p) (handles.foldl (State.retireOwned p)
    { s with arbiter := s.arbiter.endSession p })

theorem State.endSession_eq (s : State) (p : Port) :
    s.endSession p =
      (({ s.withdrawn p with attn := (s.withdrawn p).attn.put p .empty } : State).updPort p fun _ => .reset).advance :=
  rfl

theorem State.calm_withdrawn (s : State) (p : Port) :
    State.Calm { s with arbiter := s.arbiter.endSession p } (s.withdrawn p) :=
  (State.calm_foldl (State.calm_retireOwned p) handles _).trans (State.calm_foldl (State.calm_cancelOwned p) reqIds _)

theorem State.inHand_endSession (s : State) (p q : Port) :
    ({ s with arbiter := s.arbiter.endSession p } : State).inHand q = if q = p then 0 else s.inHand q := by
  have waiting : (s.arbiter.endSession p).waiting.countP (fun c => c.port == q) =
      if q = p then 0 else s.arbiter.waiting.countP fun c => c.port == q := by
    rw [Arbiter.endSession, List.countP_filter]
    by_cases h : q = p
    · rw [if_pos h, List.countP_eq_zero]
      simp [h]
    · rw [if_neg h]
      refine List.countP_congr fun c _ => ?_
      by_cases hc : c.port = q <;> simp [hc, h]
  unfold State.inHand
  dsimp only
  rw [waiting]
  cases hk : s.arbiter.parked with
  | none => simp [Arbiter.endSession, hk]
  | some k =>
    by_cases hp : k.port = p
    · by_cases h : q = p
      · simp [Arbiter.endSession, hk, hp, h]
      · have : k.port ≠ q := fun e => h (e.symm.trans hp)
        simp [Arbiter.endSession, hk, hp, h, Ne.symm h]
    · by_cases h : q = p
      · simp [Arbiter.endSession, hk, hp, h]
      · simp [Arbiter.endSession, hk, hp, h]

theorem State.soundNext_endSession (s : State) (p : Port) : s.SoundNext (s.endSession p) := by
  obtain ⟨u, withdrawn, last⟩ : ∃ u, State.Calm { s with arbiter := s.arbiter.endSession p } u ∧
      State.Calm (({ u with attn := u.attn.put p .empty } : State).updPort p fun _ => .reset) (s.endSession p) :=
    ⟨s.withdrawn p, s.calm_withdrawn p, by rw [State.endSession_eq]; exact State.calm_advance _⟩
  have engine : (s.endSession p).engine.state = s.engine.state := last.engine.trans withdrawn.engine
  refine ⟨last.pending.trans withdrawn.pending, fun hs => ?_, fun _ hl => ?_, fun hp => ⟨⟨fun q => ?_, ?_⟩, ?_⟩⟩
  · exact last.flightSound ((withdrawn.flightSound (hs.of_same (by rfl) (by rfl))).of_same (by rfl) (by rfl))
  · rw [engine]
    have own := withdrawn.keepsOwnLeases (hl.of_table (by rfl))
    refine last.leases _ (fun k hk => ?_) (own.of_table (by rfl))
    have same : u.engine.state = s.engine.state := withdrawn.engine
    rw [← same, ← u.recordInFlight_eq]
    exact hk
  · have arbiter : (s.endSession p).arbiter = s.arbiter.endSession p := last.arbiter.trans withdrawn.arbiter
    rw [show (s.endSession p).inHand q = ({ s with arbiter := s.arbiter.endSession p } : State).inHand q by
      simp only [State.inHand, arbiter], State.inHand_endSession, State.ports_endSession]
    by_cases h : q = p
    · subst h
      simp [HostPort.reset]
    · rw [if_neg h, PerPort.get_put_other _ _ _ _ h]
      exact hp.hands.hand q
  · intro q status frame hq
    rw [State.ports_endSession] at hq ⊢
    by_cases h : q = p
    · subst h
      simp [HostPort.reset] at hq
    · rw [PerPort.get_put_other _ _ _ _ h] at hq ⊢
      exact hp.hands.shown q status frame hq
  · intro k hk
    rw [show (s.endSession p).arbiter = s.arbiter.endSession p from last.arbiter.trans withdrawn.arbiter] at hk
    obtain ⟨k0, hk0, e⟩ := Option.map_eq_some_iff.1 hk
    have kind : k.kind = k0.kind := by
      rw [← e]
      split <;> rfl
    have awaits := hp.parked k0 hk0
    rw [engine, kind]
    refine last.awaitsFor ?_
    have before : u.AwaitsFor s.engine.state.inFlight k0.kind := by
      refine withdrawn.awaitsFor ?_
      cases hkind : k0.kind <;> rw [hkind] at awaits <;> exact awaits
    cases hkind : k0.kind <;> rw [hkind] at before <;> exact before

theorem stepsSoundly_portReset (p : Port) (sent : List Byte) (s : State) :
    s.StepsSoundly (execPortReset p sent s) := by
  unfold execPortReset
  split
  · split
    · exact (s.soundNext_endSession p).steps
    · exact (s.soundNext_frameError p).steps
  · exact (s.soundNext_selRises p).steps
  all_goals exact s.stepsSoundly_self

/-! ### A device reset -/

/-- The engine, the ports and the arbiter as a device reset leaves them. -/
structure State.PortsReset (t : State) : Prop where
  engine : t.engine = State.reset.engine
  arbiter : t.arbiter = ⟨[], none⟩
  ports : ∀ p, (t.ports.get p).state = .idle ∧ ∀ status r, (t.ports.get p).txn ≠ .active status r

theorem CycleUnit.configInTable_reset : CycleUnit.reset.ConfigInTable :=
  ⟨by unfold inTable; decide, by decide, by decide, by decide, nofun⟩

theorem State.TablesReset.flightSound {t : State} (ht : t.TablesReset) (hp : t.PortsReset) : t.FlightSound :=
  State.flightSound_of_idle (ht.trunk ▸ CycleUnit.configInTable_reset)
    (fun h => by simp [State.inCycle, ht.trunk, CycleUnit.reset] at h) (by rw [hp.engine]; rfl)

theorem State.TablesReset.leasesFor {t : State} (ht : t.TablesReset) (f : Option Exchange) : t.LeasesFor f :=
  ⟨fun h _ hr => absurd ((ht.record h).symm.trans hr) nofun,
    fun h ⟨_, hr, _⟩ => absurd ((ht.record h).symm.trans hr) nofun⟩

theorem State.PortsReset.portsFor {t : State} (hp : t.PortsReset) (f : Option Exchange) : t.PortsFor f none where
  hands :=
    { hand := fun p => by simp [State.inHand, hp.arbiter, (hp.ports p).1]
      shown := fun p status frame h => absurd h ((hp.ports p).2 status _) }
  parked := State.parkedFor_of_none (by rw [hp.arbiter])

theorem HostPort.afterReset_facts (low : Bool) : (HostPort.afterReset low).state = .idle ∧
    ∀ status r, (HostPort.afterReset low).txn ≠ .active status r := by
  cases low <;> exact ⟨rfl, nofun⟩

theorem stepsSoundly_deviceReset (selLowA selLowB : Bool) (s : State) :
    s.StepsSoundly (execDeviceReset selLowA selLowB s) := by
  have tables : State.TablesReset { State.reset with
      ports := ⟨.afterReset selLowA, .afterReset selLowB⟩
      store := { State.reset.store with mem := s.placeArrived.store.mem }
      pins := ⟨s.pins.lfault, s.pins.rxBusy, none⟩
      freeIndex := s.placeArrived.freeIndex + 1
      pending := s.pending } := ⟨rfl, rfl, rfl, rfl, rfl, rfl⟩
  have ports : State.PortsReset { State.reset with
      ports := ⟨.afterReset selLowA, .afterReset selLowB⟩
      store := { State.reset.store with mem := s.placeArrived.store.mem }
      pins := ⟨s.pins.lfault, s.pins.rxBusy, none⟩
      freeIndex := s.placeArrived.freeIndex + 1
      pending := s.pending } :=
    ⟨rfl, rfl, fun p => by cases p <;> exact HostPort.afterReset_facts _⟩
  exact State.SoundNext.steps ⟨rfl, fun _ => tables.flightSound ports, fun _ _ => tables.leasesFor _,
    fun _ => ports.portsFor _⟩

/-! ### Every command -/

theorem stepsSoundly_serve (s : State) (p : Port) (name : CommandName)
    {owner : Port → List Byte → State → State × Answer} (ho : ∀ q body (u : State), u.AnswersSoundly (owner q body u)) :
    s.StepsSoundly (.next (s.serve p name owner)) := (s.soundNext_serve p name ho).steps

theorem exec_stepsSoundly (i : Instr) (s : State) : s.StepsSoundly (exec i s) := by
  cases i with
  | openStream p => exact stepsSoundly_serve s p _ answersSoundly_ownOpenStream
  | amendStream p => exact stepsSoundly_serve s p _ answersSoundly_ownAmendStream
  | closeStream p => exact stepsSoundly_serve s p _ answersSoundly_ownCloseStream
  | readStream p => exact stepsSoundly_serve s p _ answersSoundly_ownReadStream
  | findStream p =>
    exact stepsSoundly_serve s p _ fun q b u =>
      State.answersSoundly_of_unchanged (ownFindStream_unchanged q b u) (ownFindStream_ne_park q b u)
  | postValue p => exact stepsSoundly_serve s p _ answersSoundly_ownPostValue
  | renewLeases p => exact stepsSoundly_serve s p _ answersSoundly_ownRenewLeases
  | restartStream p => exact stepsSoundly_serve s p _ answersSoundly_ownRestartStream
  | readLoad p =>
    exact stepsSoundly_serve s p _ fun q b u =>
      State.answersSoundly_of_unchanged (ownReadLoad_unchanged q b u) (ownReadLoad_ne_park q b u)
  | sendRequest p => exact stepsSoundly_serve s p _ answersSoundly_ownSendRequest
  | fetchRequest p => exact stepsSoundly_serve s p _ answersSoundly_ownFetchRequest
  | cancelRequest p => exact stepsSoundly_serve s p _ answersSoundly_ownCancelRequest
  | readNode p =>
    exact stepsSoundly_serve s p _ fun q b u =>
      State.answersSoundly_of_unchanged (ownReadNode_unchanged q b u) (ownReadNode_ne_park q b u)
  | scanNodes p => exact stepsSoundly_serve s p _ answersSoundly_ownScanNodes
  | startTrunk p lfault => exact stepsSoundly_serve s p _ (answersSoundly_ownStartTrunk lfault)
  | haltTrunk p => exact stepsSoundly_serve s p _ answersSoundly_ownHaltTrunk
  | setConfig p => exact stepsSoundly_serve s p _ answersSoundly_ownSetConfig
  | readConfig p =>
    exact stepsSoundly_serve s p _ fun q b u =>
      State.answersSoundly_of_unchanged (ownReadConfig_unchanged q b u) (ownReadConfig_ne_park q b u)
  | readAttn p => exact stepsSoundly_serve s p _ answersSoundly_ownReadAttn
  | setAttnMask p => exact stepsSoundly_serve s p _ answersSoundly_ownSetAttnMask
  | badCommand p => exact stepsSoundly_badCommand p s
  | commandTransaction p sent => exact stepsSoundly_commandTransaction p sent s
  | resultTransaction p clocked => exact stepsSoundly_resultTransaction p clocked s
  | portReset p sent => exact stepsSoundly_portReset p sent s
  | transactionNotTaken p sent => exact stepsSoundly_transactionNotTaken p sent s
  | deviceReset selLowA selLowB => exact stepsSoundly_deviceReset selLowA selLowB s
  | lfaultAsserted => exact stepsSoundly_lfaultAsserted s
  | restartMarkDue => exact stepsSoundly_restartMarkDue s
  | restartMarkEnd => exact stepsSoundly_restartMarkEnd s
  | cycleMarkDue => exact stepsSoundly_cycleMarkDue s
  | cycleMarkEnd => exact stepsSoundly_cycleMarkEnd s
  | drainEnd => exact stepsSoundly_drainEnd s
  | guardStart => exact stepsSoundly_guardStart s
  | leaseExpiry h => exact (s.calm_expireLease h).soundStep.steps
  | firstAttemptStart => exact stepsSoundly_firstAttemptStart s
  | retryStart => exact stepsSoundly_retryStart s
  | probeStart => exact stepsSoundly_probeStart s
  | pieceStart => exact stepsSoundly_pieceStart s
  | pollSent => exact stepsSoundly_pollSent s
  | replyBegin turnaround => exact stepsSoundly_replyBegin turnaround s
  | exchangeTimeout => exact stepsSoundly_exchangeTimeout s
  | replyEnd bytes gaps => exact stepsSoundly_replyEnd bytes gaps s
  | slotEndOverlong bytes => exact stepsSoundly_slotEndOverlong bytes s
  | quietingEnd after => exact stepsSoundly_quietingEnd after s
  | quietingBound => exact stepsSoundly_quietingBound s
  | selFalls p => exact stepsSoundly_selFalls p s
  | kindByteWhole p => exact stepsSoundly_kindByteWhole p s
  | strayBytes elapsed receiving => exact stepsSoundly_strayBytes elapsed receiving s

/-! ### The obligations -/

/-- A step is its command's on the state without it, of which the invariants do not speak. -/
theorem step_sound {s t : State} (h : step s = .next t) :
    t = s ∨ ∃ u : State, u.SoundNext t ∧ (s.FlightSound → u.FlightSound) ∧
      (s.LeasesFor s.engine.state.inFlight → u.LeasesFor u.engine.state.inFlight) ∧
      (s.PortsFor s.engine.state.inFlight none → u.PortsFor u.engine.state.inFlight none) := by
  obtain e | ⟨c, rest, -, hc⟩ := step_cases h
  · exact .inl e
  · obtain ⟨u, hu, sound⟩ := exec_stepsSoundly c { s with pending := rest }
    cases hu.symm.trans hc
    refine .inr ⟨_, sound, fun hs => hs.of_same (by rfl) (by rfl), fun hl => hl.of_table (by rfl), fun hp =>
      ⟨hp.hands.of_eq (by rfl) (by rfl), fun k hk => ?_⟩⟩
    have awaits := hp.parked k hk
    cases hkind : k.kind <;> rw [hkind] at awaits <;> exact awaits

/-- Settles O2: every row's arm ends in a next state, and none writes the queue. -/
theorem everyCommandGoesOn : Obligations.EveryCommandGoesOn := fun c s => by
  obtain ⟨t, e, sound⟩ := exec_stepsSoundly c s
  exact ⟨t, e, sound.pending⟩

/-- Settles O10: an exchange starts with a slot that fits, and its engine moves on only while no mark or drain end is
due. -/
theorem stepKeepsFlightSound : Obligations.StepKeepsFlightSound := fun s t hs h => by
  obtain rfl | ⟨u, sound, flight, -⟩ := step_sound h
  · exact hs
  · exact sound.flight (flight hs)

/-- Settles O11: a port's command in hand is answered or parked by the step that takes it, and a parked one is answered
by the end of the exchange it waits for. -/
theorem stepKeepsPortsSound : Obligations.StepKeepsPortsSound := fun s t hs h => by
  obtain rfl | ⟨u, sound, -, -, ports⟩ := step_sound h
  · exact hs
  · exact State.portsSound_iff.2 (sound.ports (ports (State.portsSound_iff.1 hs)))

/-- Settles O12: a lease is counted down at a mark alone, which frees a record whose lease runs out. -/
theorem stepKeepsLeasesSound : Obligations.StepKeepsLeasesSound := fun s t hf hs h => by
  obtain rfl | ⟨u, sound, flight, leases, -⟩ := step_sound h
  · exact hs
  · exact State.leasesSound_iff.2 (sound.leases (flight hf) (leases (State.leasesSound_iff.1 hs)))

end Sys2Proof.Machine
end

section
/-! PROOFS. The machine's step and its reset, and the commands that report or change one block's own fields: READ_STREAM,
RENEW_LEASES, READ_NODE, SCAN_NODES, READ_LOAD, READ_CONFIG and SET_ATTN_MASK. -/

namespace Sys2Proof.Machine

/-! ### The step and the reset -/

/-- Settles O1: by the two forms of the queue. -/
theorem stepRunsFrontCommand : Obligations.StepRunsFrontCommand :=
  ⟨fun s c rest hp => by rw [step, hp], fun s hp => by rw [step, hp]⟩

theorem State.tablesReset_reset : State.reset.TablesReset := ⟨rfl, rfl, rfl, rfl, rfl, rfl⟩

theorem State.portsReset_reset : State.reset.PortsReset :=
  ⟨rfl, rfl, fun p => by cases p <;> exact ⟨rfl, nofun⟩⟩

@[simp] theorem AttnSet.entry_empty (src : Source) : AttnSet.empty.entry src = 0 := by
  simp [AttnSet.entry, AttnSet.empty]

theorem mem_poolBlocks {b : Block} : b ∈ poolBlocks ↔ b.val < 320 := by
  simp only [poolBlocks, List.mem_map, List.mem_finRange, true_and]
  exact ⟨fun ⟨k, hk⟩ => hk ▸ k.isLt, fun hb => ⟨⟨b.val, hb⟩, rfl⟩⟩

/-- No entry of the empty set is enabled, and an IDLE port has no result. -/
theorem State.attnLine_reset (p : Port) : State.reset.attnLine p = false := by
  have quiet : State.reset.attnPart p = false := by
    cases p <;> simp [State.attnPart, State.reset, PerPort.get, AttnSet.empty]
  rw [State.attnLine, quiet]
  cases p <;> rfl

/-- Settles O3: field by field, from the definition of the reset state. -/
theorem resetValues : Obligations.ResetValues := by
  have tables := State.tablesReset_reset
  refine ⟨tables.record, fun k => by simp [State.reset, StreamTable.reset], by simp [State.reset, poolBlocks],
    fun b => mem_poolBlocks, rfl, rfl, rfl, rfl, rfl, rfl, rfl, rfl, rfl, rfl, rfl, rfl, tables.request, rfl, rfl, rfl,
    rfl, tables.node, fun p => ?_, rfl, rfl⟩
  cases p with
  | a | b => exact ⟨rfl, rfl, rfl, rfl, rfl, AttnSet.entry_empty, State.attnLine_reset _⟩

/-- Settles O4: each invariant of the reset state, from its empty tables and idle ports. -/
theorem resetIsSound : Obligations.ResetIsSound := by
  have tables := State.tablesReset_reset
  have ports := State.portsReset_reset
  exact ⟨State.reset_mem_wf, tables.keysDistinct, tables.countsTrue, tables.entriesOnce, tables.poolTrue,
    tables.loadTrue, tables.queueTrue, tables.flightSound ports, State.leasesSound_iff.2 (tables.leasesFor _),
    State.portsSound_iff.2 (ports.portsFor _)⟩

/-! ### Bodies of another form (R167) -/

theorem readOneByte_of_length_ne {body : List Byte} (hl : body.length ≠ 1) : readOneByte body = none := by
  match body, hl with
  | [], _ => rfl
  | [_], hl => exact absurd rfl hl
  | _ :: _ :: _, _ => rfl

theorem readNothing_of_ne {body : List Byte} (hb : body ≠ []) : readNothing body = none := by
  cases body with
  | nil => exact absurd rfl hb
  | cons _ _ => rfl

theorem readReadStream_of_length_ne {body : List Byte} (hl : body.length ≠ 2) : readReadStream body = none := by
  match body, hl with
  | [], _ => rfl
  | [_], _ => rfl
  | [_, _], hl => exact absurd rfl hl
  | _ :: _ :: _ :: _, _ => rfl

theorem readReadLoad_of_length_ne {body : List Byte} (hl : body.length ≠ 2) : readReadLoad body = none := by
  match body, hl with
  | [], _ => rfl
  | [_], _ => rfl
  | [_, _], hl => exact absurd rfl hl
  | _ :: _ :: _ :: _, _ => rfl

theorem readMask_of_length_ne {body : List Byte} (hl : body.length ≠ 2) : readMask body = none := by
  match body, hl with
  | [], _ => rfl
  | [_], _ => rfl
  | [_, _], hl => exact absurd rfl hl
  | _ :: _ :: _ :: _, _ => rfl

theorem readBool_of_large {b : Byte} (hb : 1 < b.toNat) : readBool b = none := by
  have zero : b ≠ 0 := fun h => by simp [h] at hb
  have one : b ≠ 1 := fun h => by simp [h] at hb
  rw [readBool, if_neg zero, if_neg one]

/-! ### READ_STREAM (R171, R187) -/

theorem byte_portCode (p : Port) : byte (portCode p) = if p = .a then 0 else 1 := by cases p <;> rfl

theorem byte_directionCode (d : Direction) : byte (directionCode d) = if d = .collect then 0 else 1 := by
  cases d <;> rfl

theorem Params.bytes_eq (q : Params) : q.bytes = paramBytes q := rfl

theorem amendmentBytes_eq (o : Option Amendment) :
    amendmentBytes o =
      match o with
      | some am => [1] ++ paramBytes am.params ++ [if am.blocks = none then 0 else 1]
      | none => List.replicate 9 0 := by
  cases o with
  | none => rfl
  | some am =>
    obtain ⟨q, blocks⟩ := am
    cases blocks <;> rfl

/-- A READ_STREAM result holds the fields of R187 in their order. -/
theorem State.recordBytes_eq (s : State) (h : Handle) (r : StreamRecord) : s.recordBytes h r = streamReport s h r := by
  rw [State.recordBytes, byte_portCode, byte_directionCode, amendmentBytes_eq]
  unfold streamReport State.valueBytes
  cases r.direction with
  | collect => cases r.sample <;> simp [Params.bytes_eq, Counters.bytes, boolByte, nodeAddress, State.loadBytes,
      Memory.readAll] <;> rfl
  | deliver => cases r.current <;> simp [Params.bytes_eq, Counters.bytes, boolByte, nodeAddress, State.currentBytes,
      State.loadBytes, Memory.readAll] <;> rfl

theorem ownReadStream_of_form (p : Port) {body : List Byte} (s : State) (hb : readReadStream body = none) :
    ownReadStream p body s = s.refuse .badArgument := by
  rw [ownReadStream, hb]

theorem readReadStream_of_flag {b flag : Byte} {clear : Bool} (hf : readBool flag = some clear) :
    readReadStream [b, flag] = some (b, clear) := by
  rw [readReadStream, hf]
  rfl

theorem ownReadStream_of_free {p : Port} {b flag : Byte} {clear : Bool} {s : State} (hf : readBool flag = some clear)
    (hb : ∀ h : Handle, h.val = b.toNat → s.record h = none) :
    ownReadStream p [b, flag] s = s.refuse .noSuch := by
  rw [ownReadStream, readReadStream_of_flag hf]
  exact State.withRecord_of_free hb

theorem ownReadStream_of_live {p : Port} {b flag : Byte} {clear : Bool} {s : State} {h : Handle} {r : StreamRecord}
    (hf : readBool flag = some clear) (hb : h.val = b.toNat) (hr : s.record h = some r) :
    ownReadStream p [b, flag] s =
      if clear = false then (s, .reply .ok (streamReport s h r))
      else if r.owner = p then (s.setRecord h (some r.cleared), .reply .ok (streamReport s h r))
      else s.refuse .notOwner := by
  rw [ownReadStream, readReadStream_of_flag hf, ← State.recordBytes_eq]
  exact State.withRecord_of_live hb hr

/-- Settles O20: the checks of READ_STREAM in their order, and the report field by field. -/
theorem readStream : Obligations.ReadStream := by
  intro p s c rest hn
  have answer : ∀ {t r bytes}, ownReadStream p c.body (s.taken rest) = (t, .reply r bytes) →
      exec (.readStream p) s = .next (t.compose c.port c.tag r bytes) :=
    fun ho => congrArg Host.Outcome.next (State.serve_of_reply hn ho)
  refine ⟨fun hl => answer (ownReadStream_of_form p _ (readReadStream_of_length_ne hl)), fun b flag hb => ?_⟩
  rw [hb] at answer
  refine ⟨fun hf => answer (ownReadStream_of_form p _ (by rw [readReadStream, readBool_of_large hf]; rfl)),
    fun hf hfree => ?_, fun h r hh hr => ⟨fun hf => ?_, fun hf ho => ?_, fun hf ho => ?_⟩⟩
  · obtain rfl | rfl : flag = 0 ∨ flag = 1 := by
      have : flag.toNat = 0 ∨ flag.toNat = 1 := by omega
      exact this.imp (fun h => BitVec.eq_of_toNat_eq h) (fun h => BitVec.eq_of_toNat_eq h)
    · exact answer (ownReadStream_of_free (clear := false) rfl hfree)
    · exact answer (ownReadStream_of_free (clear := true) rfl hfree)
  · exact answer (ownReadStream_of_live (clear := false) (hf ▸ rfl) hh.symm hr)
  · have own := ownReadStream_of_live (p := p) (flag := flag) (clear := true) (s := s.taken rest) (hf ▸ rfl) hh.symm hr
    rw [if_neg nofun, if_neg ho] at own
    exact answer own
  · have own := ownReadStream_of_live (p := p) (flag := flag) (clear := true) (s := s.taken rest) (hf ▸ rfl) hh.symm hr
    rw [if_neg nofun, if_pos ho] at own
    exact answer own

/-! ### RENEW_LEASES (R18) -/

theorem StreamRecord.renewable_eq (p : Port) (r : StreamRecord) :
    r.renewable p = decide (r.owner = p ∧ r.params.lease ≠ none ∧ r.state ≠ .closing) := by
  rw [Bool.eq_iff_iff]
  simp [StreamRecord.renewable, and_assoc, Option.isSome_iff_ne_none]

theorem State.record_mapRecords (s : State) (f : StreamRecord → StreamRecord) (h : Handle) :
    State.record { s with table := { s.table with records := s.table.records.map fun o => o.map f } } h =
      (s.record h).map f := by
  simp [State.record]

/-- Settles O23: the form check, and then the renewal of every record reached. -/
theorem renewLeases : Obligations.RenewLeases := by
  intro p s c rest hn
  have answer : ∀ {t r bytes}, ownRenewLeases p c.body (s.taken rest) = (t, .reply r bytes) →
      exec (.renewLeases p) s = .next (t.compose c.port c.tag r bytes) :=
    fun ho => congrArg Host.Outcome.next (State.serve_of_reply hn ho)
  refine ⟨fun hb => answer (t := s.taken rest) (by rw [ownRenewLeases, readNothing_of_ne hb]; rfl), fun hb => ?_⟩
  rw [hb] at answer
  refine ⟨_, answer rfl, ?_, fun h => ?_⟩
  · simp only [← StreamRecord.renewable_eq]
    rfl
  · simp only [← StreamRecord.renewable_eq]
    exact s.record_mapRecords _ h

/-! ### READ_NODE and SCAN_NODES (R116, R125, R127) -/

theorem placeIn_eq {α : Type} [DecidableEq α] (l : List α) (x : α) :
    byte (placeIn l x) = if x ∈ l then byte (l.idxOf x + 1) else 0 := by
  unfold placeIn
  split <;> rfl

theorem identityBytes_eq (o : Option Identity) :
    identityBytes o =
      match o with
      | some i => [1] ++ be16 i.typeCode ++ [byte i.channels, byte i.largest]
      | none => [0, 0, 0, 0, 0] := by
  cases o <;> rfl

/-- Settles O28: the form and range checks, and then the entry as it stands. -/
theorem readNode : Obligations.ReadNode := by
  intro p s c rest hn
  have answer : ∀ {r bytes}, ownReadNode p c.body (s.taken rest) = (s.taken rest, .reply r bytes) →
      exec (.readNode p) s = .next (s.answered c rest r bytes) :=
    fun ho => congrArg Host.Outcome.next (State.serve_of_unchanged hn ho)
  refine ⟨fun hl => answer (by rw [ownReadNode, readOneByte_of_length_ne hl]; rfl), fun b hb => ?_⟩
  rw [hb] at answer
  refine ⟨fun hr => answer ?_, fun n hnd => answer ?_⟩
  · simp only [ownReadNode, readOneByte, nodeOf?_eq_none.2 hr]
    rfl
  · simp only [ownReadNode, readOneByte, nodeOf?_eq_some.2 hnd, State.nodeBytes, identityBytes_eq, placeIn_eq]
    rfl

theorem State.scanNew_eq (s : State) :
    s.scanNew = (List.finRange 62).filter fun n =>
      decide (((s.node n).state = .unknown ∨ (s.node n).state = .absent) ∧ n ∉ s.acyclic.probeList) := by
  unfold State.scanNew nodes
  congr 1
  funext n
  rw [Bool.eq_iff_iff]
  simp

/-- The addresses a scan appends are not on the list, so that none of them is left out. -/
theorem State.scan_eq (s : State) :
    s.scan = { s with acyclic := { s.acyclic with
      probeList := s.acyclic.probeList ++ s.scanNew
      scanPending := s.acyclic.scanPending || decide (s.scanNew ≠ []) } } := by
  have unlisted : s.scanNew.filter (fun n => !s.acyclic.probeList.contains n) = s.scanNew := by
    refine List.filter_eq_self.2 fun n hn => ?_
    rw [State.scanNew, List.mem_filter, Bool.and_eq_true] at hn
    exact hn.2.2
  unfold State.scan State.appendProbes
  rw [unlisted]
  by_cases hnew : s.scanNew = [] <;> simp [hnew]

/-- Settles O29: the form check, and then the scan. -/
theorem scanNodes : Obligations.ScanNodes := by
  intro p s c rest hn
  have answer : ∀ {t r bytes}, ownScanNodes p c.body (s.taken rest) = (t, .reply r bytes) →
      exec (.scanNodes p) s = .next (t.compose c.port c.tag r bytes) :=
    fun ho => congrArg Host.Outcome.next (State.serve_of_reply hn ho)
  refine ⟨fun hb => answer (t := s.taken rest) (by rw [ownScanNodes, readNothing_of_ne hb]; rfl), fun hb => ?_⟩
  rw [hb] at answer
  have own : ownScanNodes p [] (s.taken rest) = ((s.taken rest).scan,
      .reply .ok [byte s.scanNew.length, byte (s.acyclic.probeList.length + s.scanNew.length)]) := by
    rw [← List.length_append]
    exact congrArg (fun u : State => ((s.taken rest).scan,
      Answer.reply .ok [byte s.scanNew.length, byte u.acyclic.probeList.length])) (s.taken rest).scan_eq
  rw [answer own, State.scan_eq, ← State.scanNew_eq]
  rfl

end Sys2Proof.Machine
end

section
/-! PROOFS. The commands of the Cycle Unit and the reports of the Load Map and the configuration: READ_LOAD, READ_CONFIG,
SET_ATTN_MASK, HALT_TRUNK, SET_CONFIG and START_TRUNK. -/

namespace Sys2Proof.Machine

/-! ### READ_LOAD and READ_CONFIG (R40, R77, R179) -/

theorem CycleUnit.budgetBytes_eq (u : CycleUnit) :
    u.budgetBytes = be16 (u.applied.c - 18 - u.applied.a) ++
      match u.staged with
      | some g => [1] ++ be16 (g.c - 18 - g.a)
      | none => [0, 0, 0] := by
  unfold CycleUnit.budgetBytes CycleUnit.stagedBudget
  rw [List.append_assoc]
  cases u.staged <;> rfl

theorem CycleUnit.stagedBytes_eq (u : CycleUnit) :
    u.stagedBytes =
      match u.staged with
      | some g => [1] ++ be16 g.c ++ be16 g.a ++ be16 (g.c - 18 - g.a)
      | none => List.replicate 7 0 := by
  unfold CycleUnit.stagedBytes
  cases u.staged <;> rfl

theorem loadAt_eq (load : Vector Nat 128) (i : Nat) : loadAt load i = (load.toList[i % 128]?).getD 0 := by
  have : i % 128 < 128 := Nat.mod_lt _ (by decide)
  simp [loadAt, this]

theorem le_foldl_max (l : List Nat) (m : Nat) : m ≤ l.foldl max m ∧ ∀ e ∈ l, e ≤ l.foldl max m := by
  induction l generalizing m with
  | nil => simp
  | cons a l ih =>
    obtain ⟨hm, hl⟩ := ih (max m a)
    refine ⟨(le_max_left m a).trans hm, fun e he => ?_⟩
    obtain rfl | he := List.mem_cons.1 he
    · exact (le_max_right m e).trans hm
    · exact hl e he

theorem foldl_max_le {l : List Nat} {m b : Nat} (hm : m ≤ b) (hl : ∀ e ∈ l, e ≤ b) : l.foldl max m ≤ b := by
  induction l generalizing m with
  | nil => exact hm
  | cons a l ih =>
    exact ih (max_le hm (hl a List.mem_cons_self)) fun e he => hl e (List.mem_cons_of_mem a he)

/-- The largest entry is the bound that some entry meets. -/
theorem largestEntry_eq {load : Vector Nat 128} {largest : Nat} (bound : ∀ k : Fin 128, load[k.val] ≤ largest)
    (met : ∃ k : Fin 128, load[k.val] = largest) : largestEntry load = largest := by
  refine le_antisymm (foldl_max_le (Nat.zero_le _) fun e he => ?_) ?_
  · obtain ⟨i, hi, rfl⟩ := List.mem_iff_getElem.1 he
    simpa using bound ⟨i, by simpa using hi⟩
  · obtain ⟨k, rfl⟩ := met
    exact (le_foldl_max load.toList 0).2 _ (by simp)

theorem State.length_freeHandles (s : State) :
    s.freeHandles.length = (List.finRange 64).countP fun h => (s.record h).isNone :=
  List.countP_eq_length_filter.symm

/-- Settles O34: the form checks, and then the fields of either report. -/
theorem readLoadAndConfig : Obligations.ReadLoadAndConfig := by
  have load : ∀ {p s c rest r bytes}, s.IsNext p .readLoad c rest →
      ownReadLoad p c.body (s.taken rest) = (s.taken rest, .reply r bytes) →
      exec (.readLoad p) s = .next (s.answered c rest r bytes) :=
    fun hn ho => congrArg Host.Outcome.next (State.serve_of_unchanged hn ho)
  have config : ∀ {p s c rest r bytes}, s.IsNext p .readConfig c rest →
      ownReadConfig p c.body (s.taken rest) = (s.taken rest, .reply r bytes) →
      exec (.readConfig p) s = .next (s.answered c rest r bytes) :=
    fun hn ho => congrArg Host.Outcome.next (State.serve_of_unchanged hn ho)
  refine ⟨fun p s c rest hn hl => load hn (by rw [ownReadLoad, readReadLoad_of_length_ne hl]; rfl),
    fun p s c rest hn hb => config hn (by rw [ownReadConfig, readNothing_of_ne hb]; rfl),
    fun p s c rest first count hn hb => ⟨fun hr => load hn ?_, fun hf h1 h64 => load hn ?_⟩,
    fun p s c rest largest hn hb bound met => config hn ?_⟩
  · simp only [hb, ownReadLoad, readReadLoad, if_pos hr]
    rfl
  · simp only [hb, ownReadLoad, readReadLoad, if_neg (show ¬(127 < first.toNat ∨ count.toNat < 1 ∨ 64 < count.toNat) by
      omega), CycleUnit.budgetBytes_eq, loadAt_eq]
    rfl
  · simp only [hb, ownReadConfig, readNothing, State.configBytes, CycleUnit.stagedBytes_eq, State.length_freeHandles]
    rw [show largestEntry (s.taken rest).table.load = largest from largestEntry_eq bound met]
    rfl

/-! ### SET_ATTN_MASK (R149) -/

theorem be16_word16 (hi lo : Byte) : be16 (word16 hi lo) = [hi, lo] := by
  have hhi := hi.isLt
  have hlo := lo.isLt
  simp only [be16, word16, List.cons.injEq, and_true]
  exact ⟨BitVec.eq_of_toNat_eq (by simp; omega), BitVec.eq_of_toNat_eq (by simp; omega)⟩

/-- Settles O36: the form check, and then the mask replaced. -/
theorem setAttnMask : Obligations.SetAttnMask := by
  have answer : ∀ {p s c rest t r bytes}, s.IsNext p .setAttnMask c rest →
      ownSetAttnMask p c.body (s.taken rest) = (t, .reply r bytes) →
      exec (.setAttnMask p) s = .next (t.compose c.port c.tag r bytes) :=
    fun hn ho => congrArg Host.Outcome.next (State.serve_of_reply hn ho)
  refine ⟨fun p s c rest hn hl =>
      answer (t := s.taken rest) hn (by rw [ownSetAttnMask, readMask_of_length_ne hl]; rfl),
    fun p s c rest m1 m0 hn hb => ?_⟩
  have hlo := m0.isLt
  constructor
  · intro high
    have large : ¬word16 m1 m0 < 16384 := by
      unfold word16
      omega
    exact answer (t := s.taken rest) hn (by simp only [hb, ownSetAttnMask, readMask, if_neg large]; rfl)
  · intro low
    have small : word16 m1 m0 < 16384 := by
      unfold word16
      omega
    have value : (BitVec.ofNat 14 (word16 m1 m0)).toNat = word16 m1 m0 := by
      rw [BitVec.toNat_ofNat, Nat.mod_eq_of_lt small]
    refine ⟨BitVec.ofNat 14 (word16 m1 m0), value, ?_⟩
    have own : ownSetAttnMask p c.body (s.taken rest) =
        ((s.taken rest).updPort p fun h => { h with mask := BitVec.ofNat 14 (word16 m1 m0) }, .reply .ok [m1, m0]) := by
      simp only [hb, ownSetAttnMask, readMask, if_pos small, value, be16_word16]
    obtain ⟨hw, rfl, hc⟩ := hn
    rw [answer ⟨hw, rfl, hc⟩ own]
    cases c.port <;> rfl

/-! ### A staged configuration applied, and entry to HALTED and FAULTED (R71, R74, R76) -/

theorem AttnSet.raise_global (t : AttnSet) (r : Reason) : t.raise .global r = t.set 0 (t[0] ||| r.bit) := rfl

theorem AttnSet.set_or_set_or (t : AttnSet) (b c : ReasonSet) :
    (t.set 0 (t[0] ||| b)).set 0 ((t.set 0 (t[0] ||| b))[0] ||| c) = t.set 0 (t[0] ||| (b ||| c)) := by
  simp [BitVec.or_assoc]

theorem State.applyStaged_eq (s : State) :
    s.applyStaged = { s with trunk := afterStaging s.trunk, attn := raisedAfterStaged s none } := by
  unfold State.applyStaged afterStaging raisedAfterStaged
  cases s.trunk.staged with
  | none => simp
  | some g => simp [State.raiseBoth_eq, State.updTrunk, AttnSet.raise_global]

/-- A global reason raised after a staged configuration was applied. -/
theorem State.applyStaged_raiseBoth_eq (s : State) (r : Reason) :
    s.applyStaged.raiseBoth r = { s with trunk := afterStaging s.trunk, attn := raisedAfterStaged s (some r) } := by
  rw [State.applyStaged_eq, State.raiseBoth_eq]
  simp only [AttnSet.raise_global, raisedAfterStaged, AttnSet.set_or_set_or]
  simp

theorem State.enterHalted_eq (s : State) : s.enterHalted = halted s := by
  unfold State.enterHalted halted
  rw [State.applyStaged_raiseBoth_eq]
  unfold afterStaging raisedAfterStaged
  cases h : s.trunk.staged <;> simp [h, State.updTrunk]

/-- Entry to FAULTED, over the state that the end of the exchange leaves (R74). -/
theorem State.enterFaulted_eq (s : State) (cause : FaultCause) :
    s.enterFaulted cause = { s.abandon with
      pins := { s.abandon.pins with tx := none }
      sched := ⟨[], [], []⟩
      trunk := { afterStaging s.abandon.trunk with
        state := .faulted, faultCause := some cause, haltRequested := false, timer := none, phase := .idle,
        guard := false }
      attn := raisedAfterStaged s.abandon (some .trunkFault) } := by
  unfold State.enterFaulted
  generalize s.abandon = u
  dsimp only
  rw [State.applyStaged_raiseBoth_eq]
  unfold afterStaging raisedAfterStaged
  cases h : u.trunk.staged <;> simp [h, State.updTrunk, State.setTx]

theorem State.abandon_of_idle {s : State} (h : s.engine.state.inFlight = none) : s.abandon = s.setEngine .idle := by
  rw [State.abandon, h]

/-! ### HALT_TRUNK (R64) -/

theorem State.haltTrunk_of_running {s : State} (hs : s.trunk.state = .running) :
    s.haltTrunk = { s with trunk := { s.trunk with state := .draining } } := by
  rw [State.haltTrunk, hs]
  rfl

theorem State.haltTrunk_of_mark {s : State} (hs : s.trunk.state = .syncing) (htx : s.pins.tx ≠ none) :
    s.haltTrunk = { s with trunk := { s.trunk with haltRequested := true } } := by
  rw [State.haltTrunk, hs]
  exact if_pos (Option.isSome_iff_ne_none.2 htx)

theorem State.haltTrunk_of_noMark {s : State} (hs : s.trunk.state = .syncing) (htx : s.pins.tx = none) :
    s.haltTrunk = halted s := by
  rw [State.haltTrunk, hs, ← State.enterHalted_eq]
  exact if_neg fun h => Option.isSome_iff_ne_none.1 h htx

theorem ownHaltTrunk_nil (p : Port) (s : State) :
    ownHaltTrunk p [] s =
      if s.trunk.state = .running ∨ s.trunk.state = .syncing then
        (s.haltTrunk,
          .reply .ok [byte (trunkStateCode s.haltTrunk.trunk.state), boolByte s.haltTrunk.trunk.haltRequested])
      else s.refuse .wrongState := rfl

/-- Settles O31: the form check, and then each trunk state. -/
theorem haltTrunk : Obligations.HaltTrunk := by
  intro p s c rest hn
  have answer : ∀ {t r bytes}, ownHaltTrunk p c.body (s.taken rest) = (t, .reply r bytes) →
      exec (.haltTrunk p) s = .next (t.compose c.port c.tag r bytes) :=
    fun ho => congrArg Host.Outcome.next (State.serve_of_reply hn ho)
  refine ⟨fun hb => answer (t := s.taken rest) (by rw [ownHaltTrunk, readNothing_of_ne hb]; rfl), fun hb hs => ?_,
    fun hb hs htx => ?_, fun hb hs htx => ?_, fun hb hs => ?_⟩
  all_goals rw [hb, ownHaltTrunk_nil] at answer
  · refine (answer (if_pos (.inl hs))).trans ?_
    rw [State.haltTrunk_of_running (s := s.taken rest) hs]
    rfl
  · refine (answer (if_pos (.inr hs))).trans ?_
    rw [State.haltTrunk_of_mark (s := s.taken rest) hs htx]
    dsimp only
    rw [show (s.taken rest).trunk.state = .syncing from hs, hs]
    rfl
  · refine (answer (if_pos (.inr hs))).trans ?_
    rw [State.haltTrunk_of_noMark (s := s.taken rest) hs htx]
    rfl
  · refine answer (t := s.taken rest) (if_neg ?_)
    rintro (h | h)
    all_goals rw [show s.trunk.state = _ from h] at hs; simp at hs

/-! ### SET_CONFIG (R36 to R38, R75) -/

theorem ConfigArgs.candidate_eq (g : ConfigArgs) (u : CycleUnit) : g.candidate u = candidateOf g u := by
  unfold ConfigArgs.candidate candidateOf
  cases u.staged <;> rfl

theorem StreamRecord.chargesAt_eq (r : StreamRecord) (k : Nat) :
    r.chargesAt k = (if k % r.params.period = r.params.phase then 1 else 0) +
      match r.amendment with
      | none => 0
      | some am => if k % am.params.period = am.params.phase then 1 else 0 := by
  unfold StreamRecord.chargesAt dueAt
  cases r.amendment <;> simp [Bool.toNat, cond_eq_ite]

theorem State.chargesAt_table (s : State) (k : Nat) : s.table.chargesAt k = chargesAt s k := by
  rw [State.chargesAt_eq, chargesAt]
  congr 2
  funext h
  cases s.record h with
  | none => rfl
  | some r => exact r.chargesAt_eq k

/-- The map that an accepted change of W leaves, and no other, is the recomputed one. -/
theorem recomputedFor_iff {s : State} {w : Nat} {load : Vector Nat 128} (hs : s.LoadTrue) :
    recomputedFor s w load ↔ load = s.table.recomputed s.trunk.applied.w w := by
  have recomputed : ∀ k : Fin 128, _ := fun k => s.getElem_recomputed w k (hs.sums k)
  simp only [State.chargesAt_table] at recomputed
  constructor
  · intro h
    refine Vector.ext fun i hi => ?_
    have own := h ⟨i, hi⟩
    have other := recomputed ⟨i, hi⟩
    dsimp only at own other
    omega
  · rintro rfl
    exact recomputed

theorem StreamTable.recomputed_self (t : StreamTable) (w : Nat) : t.recomputed w w = t.load :=
  Vector.ext fun i hi => by simp [StreamTable.recomputed]

theorem State.configuredLoad_eq (s : State) (g : ConfigArgs) :
    s.configuredLoad g = s.table.recomputed s.trunk.applied.w (g.w.getD s.trunk.applied.w) := by
  unfold State.configuredLoad
  cases g.w with
  | none => exact (s.table.recomputed_self _).symm
  | some w => rfl

theorem ownSetConfig_of_form (p : Port) {body : List Byte} (s : State) (hb : readSetConfig body = none) :
    ownSetConfig p body s = s.refuse .badArgument := by
  rw [ownSetConfig, hb]

theorem ownSetConfig_of_args (p : Port) {body : List Byte} (s : State) {g : ConfigArgs}
    (hb : readSetConfig body = some g) :
    ownSetConfig p body s =
      if g.inRange = false ∨ (candidateOf g s.trunk).c < 18 + (candidateOf g s.trunk).a then s.refuse .badArgument
      else if s.stopped = false ∧ g.namesStopped = true then s.refuse .wrongState
      else if s.configFits g = false then s.refuse .noBudget
      else (s.setConfig g, .reply .ok ([boolByte (!s.stopped)] ++ (s.setConfig g).trunk.budgetBytes)) := by
  rw [ownSetConfig, hb, ← ConfigArgs.candidate_eq]

theorem State.configFits_iff {s : State} {g : ConfigArgs} :
    s.configFits g = true ↔
      ((g.c = none ∧ g.a = none) ∨
        ∀ i : Fin 128, s.table.load[i.val] ≤ (candidateOf g s.trunk).c - 18 - (candidateOf g s.trunk).a) ∧
      (g.w = none ∨ ∀ i : Fin 128, (s.configuredLoad g)[i.val] ≤ (g.configured s.stopped s.trunk).admissionLimit) := by
  rw [← ConfigArgs.candidate_eq]
  unfold State.configFits State.configuredLoad
  cases g.w <;> simp [fitsBudget_iff, budget]

theorem ConfigArgs.namesStopped_iff {g : ConfigArgs} :
    g.namesStopped = true ↔ g.w ≠ none ∨ g.threshold ≠ none ∨ g.interval ≠ none := by
  simp [ConfigArgs.namesStopped, Option.isSome_iff_ne_none, or_assoc]

/-- Settles O32: the checks of SET_CONFIG in their order in a stopped state, and the command carried out. -/
theorem setConfigStopped : Obligations.SetConfigStopped := by
  intro p s c rest g load hl hn hb hst k u hload fits
  have answer : ∀ {t r bytes}, ownSetConfig p c.body (s.taken rest) = (t, .reply r bytes) →
      exec (.setConfig p) s = .next (t.compose c.port c.tag r bytes) :=
    fun ho => congrArg Host.Outcome.next (State.serve_of_reply hn ho)
  rw [ownSetConfig_of_args p _ hb] at answer
  have unstaged := hl.unstaged hst
  have loads : s.configuredLoad g = load := by
    rw [State.configuredLoad_eq, ← (recomputedFor_iff hl).1 hload]
  have fits_iff : (s.taken rest).configFits g = true ↔ fits := by
    rw [State.configFits_iff]
    simp only [fits, ← loads]
    rw [show (s.taken rest).stopped = true from hst, ConfigArgs.limit_of_stopped (u := (s.taken rest).trunk) unstaged,
      ConfigArgs.candidate_eq]
    rfl
  refine ⟨fun h => answer (t := s.taken rest) (if_pos h), fun hr hca hf => ?_, fun hr hca hf => ?_⟩
  all_goals
    rw [if_neg (by
        rw [hr]
        exact not_or.2 ⟨nofun, Nat.not_lt.2 hca⟩),
      if_neg (fun h => absurd (show s.stopped = false from h.1) (by simp [hst]))] at answer
  · exact answer (t := s.taken rest) (if_pos (Bool.eq_false_iff.2 fun h => hf (fits_iff.1 h)))
  · refine (answer (if_neg (fun h => Bool.eq_false_iff.1 h (fits_iff.2 hf)))).trans ?_
    have configured : g.configured true s.trunk = { s.trunk with applied := u } := by
      simp only [ConfigArgs.configured, ConfigArgs.candidate_eq, u, k]
      rfl
    rw [State.setConfig_eq, CycleUnit.budgetBytes_eq]
    simp only [show (s.taken rest).stopped = true from hst, show (s.taken rest).trunk = s.trunk from rfl, configured,
      unstaged, show (s.taken rest).configuredLoad g = load from loads, if_true]
    rfl

/-- Settles O33: the checks of SET_CONFIG in their order in SYNCING, RUNNING and DRAINING, and the staging. -/
theorem setConfigStages : Obligations.SetConfigStages := by
  have answer : ∀ {p s c rest t r bytes}, s.IsNext p .setConfig c rest →
      ownSetConfig p c.body (s.taken rest) = (t, .reply r bytes) →
      exec (.setConfig p) s = .next (t.compose c.port c.tag r bytes) :=
    fun hn ho => congrArg Host.Outcome.next (State.serve_of_reply hn ho)
  refine ⟨fun p s c rest hn hb => answer (t := s.taken rest) hn (ownSetConfig_of_form p _ hb),
    ?_⟩
  intro p s c rest g hn hb hst k fits stoppedOnly
  replace answer := @answer p s c rest
  rw [ownSetConfig_of_args p _ hb] at answer
  have named_iff : g.namesStopped = true ↔ stoppedOnly := ConfigArgs.namesStopped_iff
  refine ⟨fun h => answer (t := s.taken rest) hn (if_pos h), fun hr hca ho => ?_, fun hr hca ho hf => ?_,
    fun hr hca ho hf => ?_⟩
  all_goals
    rw [if_neg (by
        rw [hr]
        exact not_or.2 ⟨nofun, Nat.not_lt.2 hca⟩)] at answer
  · exact answer (t := s.taken rest) hn (if_pos ⟨hst, named_iff.2 ho⟩)
  all_goals
    have unnamed : ¬g.namesStopped = true := fun h => ho (named_iff.1 h)
    rw [if_neg fun h => unnamed h.2] at answer
    have named := ConfigArgs.names_of_running hr (Bool.eq_false_iff.2 unnamed)
    have window : g.w = none := by_contra fun h => ho (.inl h)
  · refine answer (t := s.taken rest) hn (if_pos (Bool.eq_false_iff.2 fun h => ?_))
    exact hf ((State.configFits_iff.1 h).1.resolve_left named)
  · refine (answer hn (if_neg fun h => Bool.eq_false_iff.1 h
      (State.configFits_iff.2 ⟨.inr hf, .inl window⟩))).trans ?_
    have configured : g.configured false s.trunk = { s.trunk with staged := some k } := by
      simp only [ConfigArgs.configured, ConfigArgs.candidate_eq, k]
      rfl
    rw [State.setConfig_eq, CycleUnit.budgetBytes_eq]
    simp only [show (s.taken rest).stopped = false from hst, show (s.taken rest).trunk = s.trunk from rfl, configured,
      State.configuredLoad, window]
    rfl

/-! ### START_TRUNK (R61 to R63, R73) -/

theorem State.stopped_iff {s : State} :
    s.stopped = true ↔ s.trunk.state = .off ∨ s.trunk.state = .halted ∨ s.trunk.state = .faulted := by
  simp [State.stopped, or_assoc]

theorem State.not_stopped_of_state {s : State}
    (hs : s.trunk.state = .syncing ∨ s.trunk.state = .running ∨ s.trunk.state = .draining) : s.stopped = false := by
  rw [State.stopped]
  rcases hs with h | h | h <;> simp [h]

theorem State.senseLfault_of_stopped {s : State} (hs : s.stopped = true) (lfault : Bool) :
    s.senseLfault lfault = { s with pins := { s.pins with lfault := lfault } } := if_pos hs

theorem State.trunkRestart_eq_restarted (s : State) : s.trunkRestart = restarted s := rfl

theorem State.applyStaged_of_unstaged {s : State} (h : s.trunk.staged = none) : s.applyStaged = s := by
  rw [State.applyStaged, h]

theorem State.beginRestartMark_of_unstaged {s : State} (h : s.trunk.staged = none) :
    s.beginRestartMark = { s with
      trunk := { s.trunk with marksSent := s.trunk.marksSent + 1, clock := 0, timer := some s.trunk.applied.c }
      pins := { s.pins with
        tx := some (restartMarkFrame (3 - s.trunk.marksSent) s.trunk.applied.c s.trunk.applied.w) } } := by
  unfold State.beginRestartMark
  rw [State.applyStaged_of_unstaged h]
  rfl

/-- The first restart mark falls due on a busy line. -/
theorem State.enterFaulted_of_unstaged {s : State} (hi : s.engine.state.inFlight = none) (hu : s.trunk.staged = none)
    (cause : FaultCause) :
    s.enterFaulted cause = { s with
      engine := { s.engine with state := .idle }
      pins := { s.pins with tx := none }
      sched := ⟨[], [], []⟩
      trunk := { s.trunk with
        state := .faulted, faultCause := some cause, haltRequested := false, timer := none, phase := .idle,
        guard := false }
      attn := raisedGlobally s .trunkFault } := by
  rw [State.enterFaulted_eq, State.abandon_of_idle hi]
  simp [afterStaging, raisedAfterStaged, raisedGlobally, hu]

theorem ownStartTrunk_nil (lfault : Bool) (p : Port) (s : State) :
    ownStartTrunk lfault p [] s =
      if s.stopped = false then s.refuse .wrongState
      else if lfault then (s.senseLfault true).refuse .lineFault
      else ((s.senseLfault false).trunkRestart.restartMarkFallsDue, .reply .ok [byte (trunkStateCode .syncing)]) := rfl

/-- Settles O30: the checks of START_TRUNK in their order, and the restart on a quiet and on a busy line. -/
theorem startTrunk : Obligations.StartTrunk := by
  intro p lfault s c rest hn
  have answer : ∀ {t r bytes}, ownStartTrunk lfault p c.body (s.taken rest) = (t, .reply r bytes) →
      exec (.startTrunk p lfault) s = .next (t.compose c.port c.tag r bytes) :=
    fun ho => congrArg Host.Outcome.next (State.serve_of_reply hn ho)
  refine ⟨fun hb => answer (t := s.taken rest) (by rw [ownStartTrunk, readNothing_of_ne hb]; rfl), fun hb hs => ?_,
    fun hb hs hu => ?_⟩
  · rw [hb, ownStartTrunk_nil] at answer
    exact answer (t := s.taken rest) (if_pos (State.not_stopped_of_state (s := s.taken rest) hs))
  · have stopped : (s.taken rest).stopped = true := State.stopped_iff.2 hs
    rw [hb, ownStartTrunk_nil, if_neg (by simp [stopped]), State.senseLfault_of_stopped stopped,
      State.senseLfault_of_stopped stopped, State.trunkRestart_eq_restarted] at answer
    refine ⟨fun hl => answer (if_pos hl), fun hl hq => ?_, fun hl hq hi => ?_⟩
    all_goals
      refine (answer (if_neg (by simp [hl]))).trans ?_
      unfold State.restartMarkFallsDue
    · rw [if_neg (by exact Bool.eq_false_iff.1 hq), State.beginRestartMark_of_unstaged (by exact hu)]
      rfl
    · rw [if_pos (by exact hq), State.enterFaulted_of_unstaged (by exact hi) (by exact hu)]
      rfl

end Sys2Proof.Machine
end

section
/-! PROOFS. Opening a stream: what the choice of a handle, of a phase and of blocks takes, and the checks in their order
(R3, R29 to R31, R168); and the checks that the commands on a stream share (R167). -/

namespace Sys2Proof.Machine

/-! ### Entries of an attention set -/

theorem Source.index_injective {a b : Source} (h : a.index = b.index) : a = b := by
  have val : a.index.val = b.index.val := congrArg Fin.val h
  cases a <;> cases b <;> simp only [Source.index, Source.request.injEq, Source.stream.injEq, Fin.ext_iff] at * <;> omega

@[simp] theorem AttnSet.entry_raise_same (t : AttnSet) (src : Source) (r : Reason) :
    (t.raise src r).entry src = t.entry src ||| r.bit := by
  simp [AttnSet.raise, AttnSet.entry]

theorem AttnSet.entry_raise_other (t : AttnSet) {src other : Source} (r : Reason) (h : other ≠ src) :
    (t.raise src r).entry other = t.entry other := by
  have differ : src.index.val ≠ other.index.val := fun e => h (Source.index_injective (Fin.ext e.symm))
  simp [AttnSet.raise, AttnSet.entry, differ]

@[simp] theorem AttnSet.entry_remove_same (t : AttnSet) (src : Source) : (t.remove src).entry src = 0 := by
  simp [AttnSet.remove, AttnSet.entry]

theorem AttnSet.entry_remove_other (t : AttnSet) {src other : Source} (h : other ≠ src) :
    (t.remove src).entry other = t.entry other := by
  have differ : src.index.val ≠ other.index.val := fun e => h (Source.index_injective (Fin.ext e.symm))
  simp [AttnSet.remove, AttnSet.entry, differ]

/-! ### The handle that OPEN_STREAM takes (R3) -/

theorem find?_finRange_eq_some {n : Nat} {p : Fin n → Bool} {i : Fin n} :
    (List.finRange n).find? p = some i ↔ p i = true ∧ ∀ j, j < i → p j = false := by
  rw [← Fin.find?_eq_find?_finRange, Fin.find?_eq_some_iff]

theorem State.freeHandles_find? (s : State) :
    s.freeHandles.find? s.cleanHandle = handles.find? fun h => decide ((s.record h).isNone ∧ s.cleanHandle h) := by
  rw [State.freeHandles, List.find?_filter]

theorem State.freeHandles_head? (s : State) :
    s.freeHandles.head? = handles.find? fun h => (s.record h).isNone := List.head?_filter

theorem State.chooseHandle_eq_none {s : State} : s.chooseHandle = none ↔ ∀ h, s.record h ≠ none := by
  have none_free : s.freeHandles = [] ↔ ∀ h, s.record h ≠ none := by
    simp [State.freeHandles, handles, List.filter_eq_nil_iff]
  rw [← none_free, State.chooseHandle]
  cases hf : s.freeHandles with
  | nil => simp
  | cons h l => split <;> simp

theorem State.chooseHandle_of_taken {s : State} {h : Handle} (ht : handleTaken s h) : s.chooseHandle = some h := by
  obtain ⟨hfree, ⟨hclean, below⟩ | ⟨unclean, below⟩⟩ := ht
  · have found : s.freeHandles.find? s.cleanHandle = some h := by
      rw [State.freeHandles_find?, handles, find?_finRange_eq_some]
      refine ⟨by simp [hfree, hclean], fun k hk => ?_⟩
      simpa using below k hk
    rw [State.chooseHandle, found]
  · have lost : s.freeHandles.find? s.cleanHandle = none := by
      simpa [State.freeHandles_find?, handles] using unclean
    rw [State.chooseHandle, lost]
    dsimp only
    rw [State.freeHandles_head?, handles, find?_finRange_eq_some]
    exact ⟨by simp [hfree], fun k hk => by simpa [Option.isSome_iff_ne_none] using below k hk⟩

/-! ### The charge that fits, and the phase chosen for ANY (R29, R31) -/

theorem admissible_iff {load : Vector Nat 128} {period phase cost limit : Nat} :
    admissible load period phase cost limit = true ↔ chargeFits load period phase cost limit := by
  simp only [admissible, List.all_eq_true, List.mem_finRange, true_implies, chargeFits, Bool.or_eq_true,
    decide_eq_true_eq, dueAt, Bool.not_eq_true', beq_eq_false_iff_ne]
  exact forall_congr' fun k => Decidable.imp_iff_not_or.symm

/-- The largest value of entry plus cost, as a walk over the indices. -/
theorem worstEntry_eq (load : Vector Nat 128) (period cost p : Nat) :
    worstEntry load period cost p = (List.finRange 128).foldl
      (fun m k => if k.val % period = p then max m (load[k.val] + cost) else m) 0 := by
  rw [worstEntry, List.foldl_map, List.foldl_filter]
  simp [dueAt]

/-- A charge fits exactly when the largest value is within the limit. -/
theorem chargeFits_iff_worstEntry {load : Vector Nat 128} {period cost p limit : Nat} :
    chargeFits load period p cost limit ↔ worstEntry load period cost p ≤ limit := by
  unfold worstEntry
  constructor
  · intro h
    refine foldl_max_le (Nat.zero_le _) fun e he => ?_
    obtain ⟨k, hk, rfl⟩ := List.mem_map.1 he
    exact h k (by simpa [dueAt] using hk)
  · intro h k hk
    refine le_trans ((le_foldl_max _ 0).2 _ ?_) h
    exact List.mem_map.2 ⟨k, by simp [dueAt, hk], rfl⟩

/-- The walk over the candidates keeps the first that has the least value so far. -/
theorem foldl_least (f : Nat → Nat) (n : Nat) :
    let m := (List.range (n + 1)).foldl (fun best p => if f p < f best then p else best) 0
    m < n + 1 ∧ (∀ p, p < n + 1 → f m ≤ f p) ∧ ∀ p, p < m → f m < f p := by
  induction n with
  | zero => exact ⟨by simp, fun p hp => by simp [Nat.lt_one_iff.1 hp], fun p hp => by simp at hp⟩
  | succ n ih =>
    obtain ⟨hm, least, first⟩ := ih
    rw [List.range_succ, List.foldl_append, List.foldl_cons, List.foldl_nil]
    generalize (List.range (n + 1)).foldl (fun best p => if f p < f best then p else best) 0 = m at hm least first ⊢
    dsimp only
    split
    · next less =>
      refine ⟨by omega, fun p hp => ?_, fun p hp => less.trans_le (least p hp)⟩
      obtain hlt | rfl : p < n + 1 ∨ p = n + 1 := by omega
      · exact (less.trans_le (least p hlt)).le
      · exact le_rfl
    · next more =>
      refine ⟨by omega, fun p hp => ?_, first⟩
      obtain hlt | rfl : p < n + 1 ∨ p = n + 1 := by omega
      · exact least p hlt
      · exact not_lt.1 more

/-- Settles O16: the walk over the candidates finds the first least loaded, and a charge fits where the largest value
is within the limit. -/
theorem phaseAnyIsLeastLoaded : Obligations.PhaseAnyIsLeastLoaded := by
  intro load period cost limit hp worst
  have positive : period = (period - 1) + 1 := by
    have : period ≠ 0 := by
      rintro rfl
      revert hp
      decide
    omega
  have worst_eq : worst = worstEntry load period cost := funext fun p => (worstEntry_eq load period cost p).symm
  have walk := foldl_least (worstEntry load period cost) (period - 1)
  rw [← positive] at walk
  obtain ⟨below, least, first⟩ := walk
  rw [worst_eq]
  refine ⟨below, least, first, fun h => ⟨_, below, h⟩, fun ⟨p, hpp, hf⟩ => ?_⟩
  exact chargeFits_iff_worstEntry.2 ((least p hpp).trans (chargeFits_iff_worstEntry.1 hf))

/-! ### The checks of OPEN_STREAM (R168) -/

theorem RosterEntry.allows_iff {e : RosterEntry} {channel len : Nat} :
    identityAllows e channel len ↔ ¬(e.hasChannel channel = false ∨ e.takesLength len = false) := by
  unfold identityAllows RosterEntry.hasChannel RosterEntry.takesLength
  cases e.identity <;> simp

theorem State.resolvePhase_eq (s : State) (g : OpenArgs) :
    resolvePhase s.table.load g.period (slotCost s.trunk.applied.w g.len) g.phase = openPhase s g := by
  unfold resolvePhase openPhase slotCost
  cases g.phase <;> rfl

section Open

variable {s : State} {p : Port} {body : List Byte} {g : OpenArgs} {n : Node}

theorem ownOpenStream_of_form (p : Port) (s : State) (hb : readOpen body = none) :
    ownOpenStream p body s = s.refuse .badArgument := by
  rw [ownOpenStream, hb]

theorem ownOpenStream_of_range (p : Port) (s : State) (hb : readOpen body = some g) (hr : g.inRange = false) :
    ownOpenStream p body s = s.refuse .badArgument := by
  rw [ownOpenStream, hb]
  exact if_pos hr

theorem ownOpenStream_of_args (p : Port) (s : State) (hb : readOpen body = some g) (hr : g.inRange = true)
    (hn : nodeOf? g.node = some n) : ownOpenStream p body s = s.judgeOpen p n g := by
  simp only [ownOpenStream, hb, hr, hn, reduceCtorEq, if_false]

theorem State.judgeOpen_of_identity (hi : ¬identityAllows (s.node n) g.channel g.len) :
    s.judgeOpen p n g = s.refuse .notSupported :=
  if_pos (by_contra fun h => hi (RosterEntry.allows_iff.2 h))

theorem State.judgeOpen_of_key (hi : identityAllows (s.node n) g.channel g.len)
    (hk : ¬keyFree s n g.channel g.direction) : s.judgeOpen p n g = s.refuse .conflict :=
  (if_neg (RosterEntry.allows_iff.1 hi)).trans
    (if_pos (Option.isSome_iff_ne_none.2 fun h => hk (State.findKey_eq_none.1 h)))

/-- The checks after CONFLICT. -/
theorem State.judgeOpen_of_keyFree (hi : identityAllows (s.node n) g.channel g.len)
    (hk : keyFree s n g.channel g.direction) :
    s.judgeOpen p n g =
      match s.chooseHandle with
      | none => s.refuse .tableFull
      | some h =>
        if s.store.free.length < blocksNeeded g.len then s.refuse .noSpace
        else if admissible s.table.load g.period (openPhase s g) (13 + g.len + s.trunk.applied.w)
            s.trunk.admissionLimit = false then s.refuse .noBudget
        else (s.openRecord p h n g (openPhase s g),
          .reply .ok [byte h.val, byte (openPhase s g), byte (streamStateCode (s.beginState n))]) := by
  unfold State.judgeOpen
  dsimp only
  rw [if_neg (RosterEntry.allows_iff.1 hi), if_neg (by rw [State.findKey_eq_none.2 hk]; nofun), State.resolvePhase_eq]
  rfl

end Open

/-- Settles O15: each check of OPEN_STREAM, the ones before it passed. -/
theorem openChecksInOrder : Obligations.OpenChecksInOrder := by
  intro p s c rest hn
  have answer : ∀ {r bytes}, ownOpenStream p c.body (s.taken rest) = (s.taken rest, .reply r bytes) →
      exec (.openStream p) s = .next (s.answered c rest r bytes) :=
    fun ho => congrArg Host.Outcome.next (State.serve_of_unchanged hn ho)
  refine ⟨fun hb => answer (ownOpenStream_of_form p _ hb), fun g hb => ⟨fun hr => answer
    (ownOpenStream_of_range p _ hb hr), fun n hr hnd => ?_⟩⟩
  rw [ownOpenStream_of_args p _ hb hr hnd] at answer
  refine ⟨fun hi => answer (State.judgeOpen_of_identity hi), fun hi => ⟨fun hk => answer
    (State.judgeOpen_of_key (s := s.taken rest) hi hk), fun hk => ?_⟩⟩
  rw [State.judgeOpen_of_keyFree (s := s.taken rest) hi hk] at answer
  refine ⟨fun full => ?_, fun ⟨k, hfree⟩ => ?_⟩
  · rw [State.chooseHandle_eq_none (s := s.taken rest) |>.2 full] at answer
    exact answer rfl
  · cases chosen : (s.taken rest).chooseHandle with
    | none => exact absurd hfree (State.chooseHandle_eq_none.1 chosen k)
    | some h =>
      rw [chosen] at answer
      refine ⟨fun space => answer (if_pos space), fun space budget => answer ?_⟩
      dsimp only
      rw [if_neg (by exact not_lt.2 space), if_pos]
      · rfl
      · exact Bool.eq_false_iff.2 fun h => budget (admissible_iff.1 h)

/-- The attention entries after OPEN_STREAM: none for the handle taken, every other as it was (R3). -/
theorem State.entry_openRecord (s : State) (p : Port) (h : Handle) (n : Node) (g : OpenArgs) (phase : Nat) (q : Port) :
    ((s.openRecord p h n g phase).attn.get q).entry (.stream h) = 0 ∧
    ∀ src, src ≠ .stream h → ((s.openRecord p h n g phase).attn.get q).entry src = (s.attn.get q).entry src := by
  rw [State.openRecord_eq]
  dsimp only
  split
  · next clean =>
    simp only [State.cleanHandle, Bool.and_eq_true, beq_iff_eq] at clean
    cases q with
    | a => exact ⟨clean.1, fun _ _ => rfl⟩
    | b => exact ⟨clean.2, fun _ _ => rfl⟩
  · cases q with
    | a | b => exact ⟨AttnSet.entry_remove_same _ _, fun src hs => AttnSet.entry_remove_other _ hs⟩

theorem Params.chargeAt_eq (q : Params) (w k : Nat) :
    q.chargeAt w k = if k % q.period = q.phase then 13 + q.len + w else 0 := by
  simp [Params.chargeAt, dueAt, slotCost]

/-- Settles O14: the record, the blocks, the charge and the count of an admitted OPEN_STREAM, and what it leaves. -/
theorem openCreatesRecord : Obligations.OpenCreatesRecord := by
  intro p s c rest g n h hn hb hr hnd hi hk ht hspace hfits
  have own := ownOpenStream_of_args p (s.taken rest) hb hr hnd
  rw [State.judgeOpen_of_keyFree (s := s.taken rest) hi hk,
    State.chooseHandle_of_taken (s := s.taken rest) (h := h) ht] at own
  dsimp only at own
  rw [if_neg (by exact not_lt.2 hspace), if_neg (by
    rw [Bool.not_eq_false]
    exact admissible_iff.2 hfits), State.byte_beginState] at own
  have replaced := (s.taken rest).replaced_openRecord p h n g (openPhase s g)
  have entries := (s.taken rest).entry_openRecord p h n g (openPhase s g)
  have node := (s.taken rest).node_openRecord p h n g (openPhase s g)
  refine ⟨_, congrArg Host.Outcome.next (State.serve_of_reply hn own), replaced.1, replaced.2, fun k => ?_,
    (s.taken rest).free_openRecord p h n g (openPhase s g), (node n).trans (if_pos rfl), fun m hm => (node m).trans (if_neg hm),
    fun q => (entries q).1, fun q => (entries q).2, ?_⟩
  · have load := (s.taken rest).load_openRecord p h n g (openPhase s g) k
    rw [Params.chargeAt_eq] at load
    simp only [State.table_compose]
    exact load
  · rw [State.openRecord_eq]
    exact ⟨rfl, rfl, rfl, ⟨rfl, rfl, rfl, rfl⟩, rfl, rfl⟩

end Sys2Proof.Machine
end

section
/-! PROOFS. Where the bytes of values and requests lie and what writing them leaves (R47, R58), and the commands that write
or read them: POST_VALUE, SEND_REQUEST and FETCH_REQUEST; with the checks that the commands on a record or a request
share (R167). -/

namespace Sys2Proof.Machine

/-! ### Bytes written at addresses -/

theorem Memory.writeAll_take (m : Memory) (addrs : List Nat) (values : List Byte) :
    m.writeAll addrs values = m.writeAll (addrs.take (min addrs.length values.length))
      (values.take (min addrs.length values.length)) := by
  unfold Memory.writeAll
  rw [← List.zip_eq_zip_take_min]

/-- A byte written is read at its address, when the addresses are distinct. -/
theorem Memory.read_writeAll {m : Memory} {addrs : List Nat} {values : List Byte} {i a : Nat} {v : Byte}
    (hm : m.wf = true) (hn : addrs.Nodup) (ha : addrs[i]? = some a) (hv : values[i]? = some v) :
    (m.writeAll addrs values).read a = v := by
  obtain ⟨hia, -⟩ := List.getElem?_eq_some_iff.1 ha
  obtain ⟨hiv, -⟩ := List.getElem?_eq_some_iff.1 hv
  have hi : i < min addrs.length values.length := lt_min hia hiv
  rw [Memory.writeAll_take]
  have whole := Memory.readAll_writeAll m (addrs.take (min addrs.length values.length))
    (values.take (min addrs.length values.length)) hm (hn.sublist (List.take_sublist _ _)) (by simp)
  have read := congrArg (fun l => l[i]?) whole
  simpa [Memory.readAll, List.getElem?_take_of_lt hi, ha, hv] using read

/-- An address that no byte is written at is read as before. -/
theorem Memory.read_writeAll_unplaced {m : Memory} {addrs : List Nat} {values : List Byte} {a : Nat}
    (h : ∀ i, i < values.length → addrs[i]? ≠ some a) : (m.writeAll addrs values).read a = m.read a := by
  rw [Memory.writeAll_take]
  refine Memory.read_writeAll_other _ _ _ _ fun mem => ?_
  obtain ⟨i, hi, rfl⟩ := List.mem_take_iff_getElem.1 mem
  exact h i (by omega) (by simp)

/-! ### The addresses of blocks, values and request areas (R47, R58) -/

theorem blockAddrs_cons (b : Block) (blocks : List Block) :
    blockAddrs (b :: blocks) = ((List.range 32).map fun o => 32 * b.val + o) ++ blockAddrs blocks := rfl

theorem length_blockAddrs (blocks : List Block) : (blockAddrs blocks).length = 32 * blocks.length := by
  induction blocks with
  | nil => rfl
  | cons b blocks ih => rw [blockAddrs_cons, List.length_append, ih, List.length_cons]; simp; omega

/-- Byte `i` of a list of blocks lies at offset `i % 32` of block `i / 32`. -/
theorem getElem?_blockAddrs (blocks : List Block) (i : Nat) :
    (blockAddrs blocks)[i]? = (blocks[i / 32]?).map fun b => 32 * b.val + i % 32 := by
  induction blocks generalizing i with
  | nil => simp [blockAddrs]
  | cons b blocks ih =>
    rw [blockAddrs_cons]
    by_cases hi : i < 32
    · rw [List.getElem?_append_left (by simpa using hi), Nat.div_eq_of_lt hi, Nat.mod_eq_of_lt hi]
      simp [hi]
    · obtain ⟨j, rfl⟩ : ∃ j, i = j + 32 := ⟨i - 32, by omega⟩
      rw [List.getElem?_append_right (by simp), List.length_map, List.length_range, Nat.add_sub_cancel, ih,
        Nat.add_div_right j (by decide), Nat.add_mod_right, List.getElem?_cons_succ]

theorem blockAddrs_nodup {blocks : List Block} (hn : blocks.Nodup) : (blockAddrs blocks).Nodup := by
  refine List.nodup_iff_injective_getElem.2 fun i j hij => ?_
  obtain ⟨i, hi⟩ := i
  obtain ⟨j, hj⟩ := j
  rw [length_blockAddrs] at hi hj
  have hib : i / 32 < blocks.length := by omega
  have hjb : j / 32 < blocks.length := by omega
  have same : (blockAddrs blocks)[i]? = (blockAddrs blocks)[j]? := by
    rw [List.getElem?_eq_getElem (by rwa [length_blockAddrs]), List.getElem?_eq_getElem (by rwa [length_blockAddrs])]
    exact congrArg some hij
  simp only [getElem?_blockAddrs, List.getElem?_eq_getElem hib, List.getElem?_eq_getElem hjb, Option.map_some,
    Option.some.injEq] at same
  have block : blocks[i / 32] = blocks[j / 32] := Fin.ext (by omega)
  have place := (hn.getElem_inj_iff).1 block
  exact Fin.ext (by simp only; omega)

theorem halfBlocks_sublist (blocks : List Block) (half : Half) : (halfBlocks blocks half).Sublist blocks := by
  cases half with
  | first => exact List.take_sublist _ _
  | second => exact List.drop_sublist _ _

theorem valueAddrs_nodup {blocks : List Block} (hn : blocks.Nodup) (half : Half) (len : Nat) :
    (valueAddrs blocks half len).Nodup :=
  (blockAddrs_nodup (hn.sublist (halfBlocks_sublist blocks half))).sublist (List.take_sublist _ _)

/-- Byte `i` of a value lies where R47 has it, when the half has room for the value. -/
theorem getElem?_valueAddrs {blocks : List Block} {half : Half} {len i : Nat} (room : len ≤ 32 * (blocks.length / 2))
    (hi : i < len) : (valueAddrs blocks half len)[i]? = byteAddress blocks half i := by
  have hib : i / 32 < blocks.length / 2 := by omega
  rw [valueAddrs, List.getElem?_take_of_lt hi, getElem?_blockAddrs]
  cases half with
  | first => simp [byteAddress, halfBlocks, List.getElem?_take_of_lt hib]
  | second => simp [byteAddress, halfBlocks]

theorem length_valueAddrs {blocks : List Block} {half : Half} {len : Nat} (room : len ≤ 32 * (blocks.length / 2)) :
    (valueAddrs blocks half len).length = len := by
  have : len ≤ 32 * (halfBlocks blocks half).length := by
    cases half <;> simp [halfBlocks] <;> omega
  rw [valueAddrs, List.length_take, length_blockAddrs, min_eq_left this]

theorem areaAddrs_nodup (id : ReqId) (offset n : Nat) : (areaAddrs id offset n).Nodup :=
  List.nodup_range.map fun _ _ h => Nat.add_left_cancel h

theorem getElem?_areaAddrs {id : ReqId} {offset n i : Nat} :
    (areaAddrs id offset n)[i]? = if i < n then some (32 * (320 + 8 * id.val) + offset + i) else none := by
  split
  · next hi => simp [areaAddrs, hi]
  · next hi => simp [areaAddrs, not_lt.1 hi]

/-- A value written into a half: each byte in its place, every other byte as it was (R47). -/
theorem Memory.writeAll_value {m : Memory} {blocks : List Block} {half : Half} {len : Nat} {value : List Byte}
    (hm : m.wf = true) (hn : blocks.Nodup) (room : len ≤ 32 * (blocks.length / 2)) (hl : value.length = len) :
    (m.writeAll (valueAddrs blocks half len) value).wf = true ∧
    (∀ i v, value[i]? = some v → ∃ a, byteAddress blocks half i = some a ∧
      (m.writeAll (valueAddrs blocks half len) value).read a = v) ∧
    ∀ a, (∀ i, i < len → byteAddress blocks half i ≠ some a) →
      (m.writeAll (valueAddrs blocks half len) value).read a = m.read a := by
  refine ⟨Memory.writeAll_wf m _ _ hm, fun i v hv => ?_, fun a ha => Memory.read_writeAll_unplaced fun i hi => ?_⟩
  · have hi : i < len := hl ▸ (List.getElem?_eq_some_iff.1 hv).1
    have hia : i < (valueAddrs blocks half len).length := (length_valueAddrs (half := half) room).symm ▸ hi
    refine ⟨(valueAddrs blocks half len)[i], ?_, Memory.read_writeAll hm (valueAddrs_nodup hn half len)
      (List.getElem?_eq_getElem hia) hv⟩
    rw [← getElem?_valueAddrs room hi, List.getElem?_eq_getElem hia]
  · rw [hl] at hi
    rw [getElem?_valueAddrs room hi]
    exact ha i hi

theorem State.PoolTrue.blocks_nodup {s : State} {h : Handle} {r : StreamRecord} (hs : s.PoolTrue)
    (hr : s.record h = some r) : r.blocks.Nodup := by
  have listed : s.listedBlocks.Nodup :=
    (hs.partition.nodup_iff.2 poolBlocks_nodup).sublist (List.sublist_append_right _ _)
  rw [State.listedBlocks_eq] at listed
  have own := (List.nodup_flatMap.1 listed).1 h (List.mem_finRange h)
  rw [State.blocksOf_of_record hr] at own
  exact own.sublist (List.sublist_append_left _ _)

/-- A half of a record's blocks has room for its value (R44). -/
theorem State.PoolTrue.room {s : State} {h : Handle} {r : StreamRecord} (hs : s.PoolTrue)
    (hr : s.record h = some r) : r.params.len ≤ 32 * (r.blocks.length / 2) := by
  have size := (hs.sized h r hr).1
  unfold blocksNeeded at size
  omega

/-! ### The checks that commands on a record share (R167) -/

/-- A command on a stream judges the handle byte its body brings: its form, then the record and its owner, then
CLOSING. -/
structure JudgesHandle (name : CommandName) (own : Port → List Byte → State → State × Answer) : Prop where
  form : ∀ p body s, handleByte name body = none → own p body s = s.refuse .badArgument
  handle : ∀ p body s b, handleByte name body = some b → ∃ act, own p body s = s.withOwnRecord p b act ∧
    ∀ h r, r.state = .closing → act h r = s.refuse .wrongState

theorem judgesHandle_ownAmendStream : JudgesHandle .amendStream ownAmendStream where
  form p body s hb := by
    rw [ownAmendStream, Option.map_eq_none_iff.1 hb]
  handle p body s b hb := by
    obtain ⟨g, hg, rfl⟩ := Option.map_eq_some_iff.1 hb
    rw [ownAmendStream, hg]
    exact ⟨_, rfl, fun h r hc => if_pos hc⟩

theorem readOneByte_eq (body : List Byte) : readOneByte body = if body.length = 1 then body.head? else none := by
  match body with
  | [] => rfl
  | [_] => rfl
  | _ :: _ :: _ => rfl

theorem judgesHandle_ownCloseStream : JudgesHandle .closeStream ownCloseStream where
  form p body s hb := by
    rw [ownCloseStream, readOneByte_eq, show (if body.length = 1 then body.head? else none) = none from hb]
  handle p body s b hb := by
    rw [ownCloseStream, readOneByte_eq, show (if body.length = 1 then body.head? else none) = some b from hb]
    exact ⟨_, rfl, fun h r hc => if_pos hc⟩

theorem judgesHandle_ownRestartStream : JudgesHandle .restartStream ownRestartStream where
  form p body s hb := by
    rw [ownRestartStream, readOneByte_eq, show (if body.length = 1 then body.head? else none) = none from hb]
  handle p body s b hb := by
    rw [ownRestartStream, readOneByte_eq, show (if body.length = 1 then body.head? else none) = some b from hb]
    exact ⟨_, rfl, fun h r hc => if_pos (by rw [hc]; nofun)⟩

theorem readPost_eq (body : List Byte) : readPost body = body.head?.map fun b => (b, body.tail) := by
  cases body <;> rfl

theorem judgesHandle_ownPostValue : JudgesHandle .postValue ownPostValue where
  form p body s hb := by
    rw [ownPostValue, readPost_eq, show body.head? = none from hb]
    rfl
  handle p body s b hb := by
    rw [ownPostValue, readPost_eq, show body.head? = some b from hb]
    exact ⟨_, rfl, fun h r hc => if_pos (.inr hc)⟩

/-- Settles O17: the four commands judge the handle byte of their bodies alike. -/
theorem streamCommandRefusals : Obligations.StreamCommandRefusals := by
  intro p i name s c rest hi hn
  obtain ⟨own, hj, hx⟩ : ∃ own, JudgesHandle name own ∧ exec i s = .next (s.serve p name own) := by
    simp only [ownerCommands, List.mem_cons, Prod.mk.injEq, List.not_mem_nil, or_false] at hi
    rcases hi with ⟨rfl, rfl⟩ | ⟨rfl, rfl⟩ | ⟨rfl, rfl⟩ | ⟨rfl, rfl⟩
    · exact ⟨_, judgesHandle_ownAmendStream, rfl⟩
    · exact ⟨_, judgesHandle_ownCloseStream, rfl⟩
    · exact ⟨_, judgesHandle_ownPostValue, rfl⟩
    · exact ⟨_, judgesHandle_ownRestartStream, rfl⟩
  have answer : ∀ {r bytes}, own p c.body (s.taken rest) = (s.taken rest, .reply r bytes) →
      exec i s = .next (s.answered c rest r bytes) :=
    fun ho => hx.trans (congrArg Host.Outcome.next (State.serve_of_unchanged hn ho))
  refine ⟨fun hb => answer (hj.form p c.body _ hb), fun b hb => ?_⟩
  obtain ⟨act, own_eq, closing⟩ := hj.handle p c.body (s.taken rest) b hb
  refine ⟨fun hfree => answer (own_eq.trans (State.withOwnRecord_of_free hfree)), fun h r hh hr => ?_⟩
  have live := own_eq.trans (State.withOwnRecord_of_live (s := s.taken rest) (p := p) (act := act) hh hr)
  exact ⟨fun ho => answer (live.trans (if_neg ho)),
    fun ho hc => answer (live.trans ((if_pos ho).trans (closing h r hc)))⟩

/-! ### POST_VALUE (R52, R55) -/

theorem ownPostValue_of_live {s : State} {p : Port} {b : Byte} {value : List Byte} {h : Handle} {r : StreamRecord}
    (hb : h.val = b.toNat) (hr : s.record h = some r) (ho : r.owner = p) :
    ownPostValue p (b :: value) s =
      if r.direction = .collect ∨ r.state = .closing then s.refuse .wrongState
      else if value.length ≠ r.params.len then s.refuse .badArgument
      else (s.postRecord h r value, .reply .ok [boolByte r.posted]) := by
  rw [ownPostValue, readPost]
  exact (State.withOwnRecord_of_live hb hr).trans (if_pos ho)

/-- Settles O22: the checks of POST_VALUE in their order, and the value in the half that is not current. -/
theorem postValue : Obligations.PostValue := by
  intro p s c rest b value h r hpool hm hn hb hh hr ho hc
  have answer : ∀ {t r bytes}, ownPostValue p c.body (s.taken rest) = (t, .reply r bytes) →
      exec (.postValue p) s = .next (t.compose c.port c.tag r bytes) :=
    fun ho => congrArg Host.Outcome.next (State.serve_of_reply hn ho)
  rw [hb, ownPostValue_of_live (s := s.taken rest) hh.symm hr ho] at answer
  refine ⟨fun hd => answer (t := s.taken rest) (if_pos (.inl hd)), fun hd hl => ?_, fun hd hl => ?_⟩
  all_goals rw [if_neg (by rw [hd]; simpa using hc)] at answer
  · exact answer (t := s.taken rest) (if_pos hl)
  · obtain ⟨wf, bytes, others⟩ := Memory.writeAll_value (half := r.currentHalf.other) hm (hpool.blocks_nodup hr)
      (hpool.room hr) hl
    refine ⟨_, ?_, wf, bytes, fun a ha => others a (hl ▸ ha)⟩
    refine (answer (if_neg (not_not.2 hl))).trans ?_
    unfold State.postRecord
    cases r.posted <;> rfl

/-! ### SEND_REQUEST (R58, R131) -/

theorem readSend_of_short {body : List Byte} (hl : body.length < 6) : readSend body = none := by
  match body, hl with
  | [], _ | [_], _ | [_, _], _ | [_, _, _], _ | [_, _, _, _], _ | [_, _, _, _, _], _ => rfl
  | _ :: _ :: _ :: _ :: _ :: _ :: _, hl => simp at hl; omega

theorem readReqKind_of_large {b : Byte} (hb : 1 < b.toNat) : readReqKind b = none := by
  have zero : b ≠ 0 := fun h => by simp [h] at hb
  have one : b ≠ 1 := fun h => by simp [h] at hb
  rw [readReqKind, if_neg zero, if_neg one]

theorem readReqKind_cases (b : Byte) :
    1 < b.toNat ∨ b = 0 ∧ readReqKind b = some .read ∨ b = 1 ∧ readReqKind b = some .write := by
  by_cases zero : b = 0
  · exact .inr (.inl ⟨zero, by rw [zero]; rfl⟩)
  · by_cases one : b = 1
    · exact .inr (.inr ⟨one, by rw [one]; rfl⟩)
    · have h0 : b.toNat ≠ 0 := fun h => zero (BitVec.eq_of_toNat_eq h)
      have h1 : b.toNat ≠ 1 := fun h => one (BitVec.eq_of_toNat_eq h)
      exact .inl (by omega)

section Send

variable {k nd p1 p0 l1 l0 : Byte} {data : List Byte}

theorem readSend_of_kind {kind : ReqKind} (hk : readReqKind k = some kind) :
    readSend (k :: nd :: p1 :: p0 :: l1 :: l0 :: data) = some ⟨kind, nd.toNat, word16 p1 p0, word16 l1 l0, data⟩ := by
  rw [readSend, hk]
  rfl

/-- The ranges and the write data pass exactly as R131 has it. -/
theorem SendArgs.inRange_iff {g : SendArgs} :
    g.inRange = true ↔ 1 ≤ g.length ∧ g.length ≤ 256 ∧
      ((g.kind = .read ∧ g.data = []) ∨ (g.kind = .write ∧ g.data.length = g.length)) := by
  rw [SendArgs.inRange, Bool.and_eq_true, Bool.and_eq_true, decide_eq_true_eq, decide_eq_true_eq, and_assoc]
  cases g.kind <;> simp [List.isEmpty_iff]

theorem ownSendRequest_of_bad (p : Port) (s : State)
    (hbad : 1 < k.toNat ∨ nd.toNat < 1 ∨ 62 < nd.toNat ∨ word16 l1 l0 < 1 ∨ 256 < word16 l1 l0 ∨
      k = 0 ∧ data ≠ [] ∨ k = 1 ∧ data.length ≠ word16 l1 l0) :
    ownSendRequest p (k :: nd :: p1 :: p0 :: l1 :: l0 :: data) s = s.refuse .badArgument := by
  unfold ownSendRequest
  rcases readReqKind_cases k with large | ⟨rfl, hk⟩ | ⟨rfl, hk⟩
  · rw [readSend, readReqKind_of_large large]
    rfl
  all_goals
    rw [readSend_of_kind hk]
    dsimp only
    cases hnd : nodeOf? nd.toNat with
    | none => rfl
    | some n =>
      have address := nodeOf?_eq_some.1 hnd
      have := n.isLt
      refine if_pos (Bool.eq_false_iff.2 fun h => ?_)
      obtain ⟨low, high, form⟩ := SendArgs.inRange_iff.1 h
      dsimp only at low high form
      simp only [reduceCtorEq, true_and, false_and, or_false, false_or] at form
      rcases hbad with h | h | h | h | h | ⟨h, hd⟩ | ⟨h, hd⟩
      all_goals first | omega | contradiction

theorem ownSendRequest_of_good {kind : ReqKind} {n : Node} (p : Port) (s : State)
    (hk : k = 0 ∧ kind = ReqKind.read ∧ data = [] ∨ k = 1 ∧ kind = ReqKind.write ∧ data.length = word16 l1 l0)
    (hnd : nd.toNat = n.val + 1) (low : 1 ≤ word16 l1 l0) (high : word16 l1 l0 ≤ 256) :
    ownSendRequest p (k :: nd :: p1 :: p0 :: l1 :: l0 :: data) s =
      match s.freeReqId with
      | none => s.refuse .queueFull
      | some id => (s.sendRequest p id n ⟨kind, nd.toNat, word16 p1 p0, word16 l1 l0, data⟩, .reply .ok [byte id.val]) := by
  have code : readReqKind k = some kind := by
    rcases hk with ⟨rfl, rfl, -⟩ | ⟨rfl, rfl, -⟩ <;> rfl
  have range : SendArgs.inRange ⟨kind, nd.toNat, word16 p1 p0, word16 l1 l0, data⟩ = true :=
    SendArgs.inRange_iff.2 ⟨low, high, hk.imp And.right And.right⟩
  simp only [ownSendRequest, readSend_of_kind code, nodeOf?_eq_some.2 hnd, range, reduceCtorEq, if_false] <;> rfl

end Send

theorem State.freeReqId_eq_none {s : State} (h : ∀ j, s.request j ≠ none) : s.freeReqId = none := by
  simpa [State.freeReqId, reqIds, Option.isSome_iff_ne_none] using h

theorem State.freeReqId_eq_some {s : State} {id : ReqId} (hid : s.request id = none)
    (below : ∀ j, j < id → s.request j ≠ none) : s.freeReqId = some id := by
  rw [State.freeReqId, reqIds, find?_finRange_eq_some]
  exact ⟨by simp [hid], fun j hj => by simpa [Option.isSome_iff_ne_none] using below j hj⟩

/-- Settles O25: the checks of SEND_REQUEST in their order, and the request taken. -/
theorem sendRequest : Obligations.SendRequest := by
  intro p s c rest hn
  have answer : ∀ {t r bytes}, ownSendRequest p c.body (s.taken rest) = (t, .reply r bytes) →
      exec (.sendRequest p) s = .next (t.compose c.port c.tag r bytes) :=
    fun ho => congrArg Host.Outcome.next (State.serve_of_reply hn ho)
  refine ⟨fun hl => answer (t := s.taken rest) (by rw [ownSendRequest, readSend_of_short hl]; rfl),
    fun k nd p1 p0 l1 l0 data hb => ?_⟩
  rw [hb] at answer
  refine ⟨fun hbad => answer (t := s.taken rest) (ownSendRequest_of_bad p _ hbad),
    fun kind n hm hk hnd low high => ?_⟩
  rw [ownSendRequest_of_good p _ hk hnd low high] at answer
  refine ⟨fun full => ?_, fun id hid below => ?_⟩
  · rw [State.freeReqId_eq_none (s := s.taken rest) full] at answer
    exact answer (t := s.taken rest) rfl
  · rw [State.freeReqId_eq_some (s := s.taken rest) (id := id) hid below] at answer
    have fits : data.length ≤ word16 l1 l0 := by
      rcases hk with ⟨-, -, rfl⟩ | ⟨-, -, hl⟩
      · exact Nat.zero_le _
      · exact hl.le
    refine ⟨Memory.writeAll s.store.mem (areaAddrs id 0 (word16 l1 l0)) data, answer rfl,
      Memory.writeAll_wf _ _ _ hm, fun i v hv => ?_, fun a ha => Memory.read_writeAll_unplaced fun i hi => ?_⟩
    · have hi := (List.getElem?_eq_some_iff.1 hv).1
      refine Memory.read_writeAll hm (areaAddrs_nodup _ _ _) ?_ hv
      rw [getElem?_areaAddrs, if_pos (by omega)]
      rfl
    · rw [getElem?_areaAddrs, if_pos (by omega)]
      exact fun h => ha i hi (Option.some.inj h).symm

/-! ### The checks on a request id, and FETCH_REQUEST (R140, R141) -/

theorem readReqId_eq_some {b : Byte} {id : ReqId} (h : b.toNat = id.val) : readReqId b = some id := by
  unfold readReqId
  rw [dif_pos (h ▸ id.isLt)]
  exact congrArg some (Fin.ext h)

theorem readReqId_eq_none {b : Byte} (h : 7 < b.toNat) : readReqId b = none := dif_neg (by omega)

section Checks

variable {s : State} {p : Port} {act : ReqId → Request → State × Answer}

theorem State.withOwnRequest_of_length_ne {body : List Byte} (hl : body.length ≠ 1) :
    s.withOwnRequest p body act = s.refuse .badArgument := by
  rw [State.withOwnRequest, readOneByte_of_length_ne hl]

theorem State.withOwnRequest_of_large {b : Byte} (hb : 7 < b.toNat) :
    s.withOwnRequest p [b] act = s.refuse .badArgument := by
  simp only [State.withOwnRequest, readOneByte, readReqId_eq_none hb]

theorem State.withOwnRequest_of_free {b : Byte} {id : ReqId} (hb : b.toNat = id.val) (hq : s.request id = none) :
    s.withOwnRequest p [b] act = s.refuse .noSuch := by
  simp only [State.withOwnRequest, readOneByte, readReqId_eq_some hb, hq]

theorem State.withOwnRequest_of_taken {b : Byte} {id : ReqId} {q : Request} (hb : b.toNat = id.val)
    (hq : s.request id = some q) :
    s.withOwnRequest p [b] act = if q.owner = p then act id q else s.refuse .notOwner := by
  simp only [State.withOwnRequest, readOneByte, readReqId_eq_some hb, hq]

end Checks

/-- The refusals of a command that names an id, whatever it does with a request of its own. -/
theorem idRefusals_of_own {i : Instr} {name : CommandName} {s : State} {p : Port} {c : Command} {rest : List Command}
    {own : Port → List Byte → State → State × Answer} {act : ReqId → Request → State × Answer}
    (hn : s.IsNext p name c rest) (hx : exec i s = .next (s.serve p name own))
    (ho : ∀ body, own p body (s.taken rest) = (s.taken rest).withOwnRequest p body act) : idRefusals i s c rest := by
  have answer : ∀ {r bytes}, (s.taken rest).withOwnRequest p c.body act = (s.taken rest, .reply r bytes) →
      exec i s = .next (s.answered c rest r bytes) :=
    fun h => hx.trans (congrArg Host.Outcome.next (State.serve_of_unchanged hn ((ho c.body).trans h)))
  refine ⟨fun hl => answer (State.withOwnRequest_of_length_ne hl), fun b hb => ?_⟩
  rw [hb] at answer
  exact ⟨fun h => answer (State.withOwnRequest_of_large h), fun id h hq => answer (State.withOwnRequest_of_free h hq)⟩

theorem byte_reqKindCode (k : ReqKind) : byte (reqKindCode k) = if k = .read then 0 else 1 := by
  cases k <;> rfl

theorem State.requestData_eq (s : State) (id : ReqId) (q : Request) :
    s.requestData id q =
      if q.kind = .read then (List.range q.progress).map fun i => s.store.mem.read (32 * (320 + 8 * id.val) + i)
      else [] := by
  unfold State.requestData State.loadBytes Memory.readAll areaAddrs
  cases q.kind <;> simp [Function.comp_def]

theorem State.freeRequest_eq (s : State) (id : ReqId) :
    s.freeRequest id = { s with acyclic := outOfQueue s id none } := by
  simp [State.freeRequest, State.leaveQueue, State.setRequest, outOfQueue, bne, beq_eq_decide]

theorem State.fetchBytes_eq (s : State) (id : ReqId) (q : Request) :
    s.fetchBytes id q =
      [if q.kind = .read then 0 else 1, byte (reqStateCode q.state), byte (failReasonCode q.reason)] ++
        be16 q.length ++ be16 q.progress ++
        if q.kind = .read then (List.range q.progress).map fun i => s.store.mem.read (32 * (320 + 8 * id.val) + i)
        else [] := by
  rw [State.fetchBytes, byte_reqKindCode, State.requestData_eq]

/-- A request that is neither QUEUED nor ACTIVE is not in the queue (R132). -/
theorem State.QueueTrue.not_mem {s : State} {id : ReqId} {q : Request} (hs : s.QueueTrue) (hq : s.request id = some q)
    (hw : ¬(q.state = .queued ∨ q.state = .active)) : id ∉ s.acyclic.queue := fun mem => by
  obtain ⟨q', hq', hw'⟩ := (hs.holds id).1 mem
  rw [hq, Option.some.injEq] at hq'
  exact hw (hq' ▸ hw')

/-- The place that NOT_READY reports: in the queue while QUEUED or ACTIVE, none while CANCELLING. -/
theorem State.QueueTrue.placeIn {s : State} {id : ReqId} {q : Request} (hs : s.QueueTrue) (hq : s.request id = some q)
    (hd : q.state ≠ .done) (hf : q.state ≠ .failed) :
    byte (placeIn s.acyclic.queue id) =
      if q.state = .cancelling then 0 else byte (s.acyclic.queue.idxOf id + 1) := by
  rw [placeIn_eq]
  split
  · next mem =>
    obtain ⟨q', hq', hw⟩ := (hs.holds id).1 mem
    rw [hq, Option.some.injEq] at hq'
    subst hq'
    rw [if_neg fun hc => by simp [hc] at hw]
  · next out =>
    have waiting : ¬(q.state = .queued ∨ q.state = .active) := fun hw => out ((hs.holds id).2 ⟨q, hq, hw⟩)
    rw [if_pos]
    cases hst : q.state with
    | queued | active => simp [hst] at waiting
    | cancelling => rfl
    | done => exact absurd hst hd
    | failed => exact absurd hst hf

/-- A request out of the queue is freed with no change of the queue. -/
theorem outOfQueue_of_not_mem {s : State} {id : ReqId} (o : Option Request) (h : id ∉ s.acyclic.queue) :
    outOfQueue s id o = { s.acyclic with
      requests := s.acyclic.requests.set id.val o id.isLt
      deferred := s.acyclic.deferred.filter (· ≠ id) } := by
  have kept : s.acyclic.queue.filter (fun k => decide (k ≠ id)) = s.acyclic.queue :=
    List.filter_eq_self.2 fun k hk => decide_eq_true fun e => h (e ▸ hk)
  rw [outOfQueue, kept]

/-- Settles O26: the checks of FETCH_REQUEST in their order, and the report of a request at its end or before it. -/
theorem fetchRequest : Obligations.FetchRequest := by
  intro p s c rest hq hn
  have answer : ∀ {t r bytes}, ownFetchRequest p c.body (s.taken rest) = (t, .reply r bytes) →
      exec (.fetchRequest p) s = .next (t.compose c.port c.tag r bytes) :=
    fun ho => congrArg Host.Outcome.next (State.serve_of_reply hn ho)
  refine ⟨idRefusals_of_own hn rfl fun body => rfl, fun b id q hb hid hreq => ?_⟩
  have taken : ownFetchRequest p [b] (s.taken rest) = _ :=
    State.withOwnRequest_of_taken (s := s.taken rest) (p := p) hid hreq
  rw [hb, taken] at answer
  refine ⟨fun ho => answer (t := s.taken rest) (if_neg ho), fun ho hd hf => ?_, fun ho hend => ?_⟩
  all_goals rw [if_pos ho] at answer
  · have place := hq.placeIn hreq hd hf
    refine answer (t := s.taken rest) ?_
    cases hst : q.state with
    | queued | active | cancelling =>
      simp only [State.notReadyBytes, hst, Prod.mk.injEq, Answer.reply.injEq, true_and]
      rw [hst] at place
      rw [List.append_assoc, show (s.taken rest).acyclic.queue = s.acyclic.queue from rfl, place]
      rfl
    | done => exact absurd hst hd
    | failed => exact absurd hst hf
  · have out : id ∉ s.acyclic.queue := hq.not_mem hreq (by rcases hend with h | h <;> simp [h])
    have own : ∀ {u}, (match q.state with
        | .done | .failed => ((s.taken rest).freeRequest id, Answer.reply .ok ((s.taken rest).fetchBytes id q))
        | .queued | .active | .cancelling => u) =
        ((s.taken rest).freeRequest id, Answer.reply .ok ((s.taken rest).fetchBytes id q)) := by
      rcases hend with h | h <;> simp [h]
    rw [answer own, State.freeRequest_eq, outOfQueue_of_not_mem (s := s.taken rest) _ out, State.fetchBytes_eq]
    rfl

end Sys2Proof.Machine
end

section
/-! PROOFS. AMEND_STREAM: the release of an earlier amendment, the checks after it in their order, and the pending amendment
given (R19, R33, R34, R44, R169). -/

namespace Sys2Proof.Machine

/-- Two states with the same fields are the same. -/
theorem State.eq_of_fields {s t : State} (ports : s.ports = t.ports) (attn : s.attn = t.attn)
    (arbiter : s.arbiter = t.arbiter) (table : s.table = t.table) (store : s.store = t.store)
    (trunk : s.trunk = t.trunk) (sched : s.sched = t.sched) (acyclic : s.acyclic = t.acyclic)
    (engine : s.engine = t.engine) (roster : s.roster = t.roster) (pins : s.pins = t.pins)
    (freeIndex : s.freeIndex = t.freeIndex) (pending : s.pending = t.pending) : s = t := by
  cases s
  cases t
  simp_all

/-! ### A pending amendment released (R20, R34) -/

/-- Releasing an amendment touches the table and the free blocks alone. -/
theorem State.dropAmendment_shape (s : State) (h : Handle) (r : StreamRecord) :
    s.dropAmendment h r = { s with
      table := (s.dropAmendment h r).table
      store := { s.store with free := (s.dropAmendment h r).store.free } } := by
  have store : (s.dropAmendment h r).store = { s.store with free := (s.dropAmendment h r).store.free } := by
    rw [State.free_dropAmendment]
    rfl
  exact State.eq_of_fields (by simp) (by simp) (by simp) rfl store (by simp) (by simp) (by simp) (by simp) (by simp)
    (by simp) (by simp) (by simp)

theorem State.dropAmendment_taken (s : State) (rest : List Command) (h : Handle) (r : StreamRecord) :
    (s.taken rest).dropAmendment h r = (s.dropAmendment h r).taken rest := by
  cases ha : r.amendment with
  | none => rw [State.dropAmendment_none ha, State.dropAmendment_none ha]
  | some am =>
    rw [State.dropAmendment_some ha, State.dropAmendment_some ha]
    rfl

theorem State.releasedFrom_dropAmendment {s : State} {h : Handle} {r : StreamRecord} (hr : s.record h = some r) :
    releasedFrom s h r (s.dropAmendment h r) := by
  refine ⟨s.dropAmendment_shape h r, State.record_dropAmendment hr, fun k => State.record_dropAmendment_other,
    fun k => ?_, fun b => ?_, fun hp => ((State.keeps_dropAmendment hr).pool hp).ascending⟩
  · rw [State.load_dropAmendment]
    cases r.amendment <;> rfl
  · rw [State.free_dropAmendment, State.mem_releaseBlocks]
    cases r.amendment <;> simp [or_comm]

/-! ### The amendment that a command names (R19, R33, R44) -/

theorem AmendArgs.params_eq (g : AmendArgs) (q : Params) (load : Vector Nat 128) (w : Nat) :
    g.params q (g.phaseOf q load w) = amendedParams g q load w := by
  unfold AmendArgs.params AmendArgs.phaseOf amendedParams resolvePhase
  rcases g.phase with _ | _ | _ <;> rfl

theorem AmendArgs.phaseOf_eq (g : AmendArgs) (q : Params) (load : Vector Nat 128) (w : Nat) :
    g.phaseOf q load w = (amendedParams g q load w).phase := by
  rw [← AmendArgs.params_eq]
  rfl

theorem RosterEntry.takesLength_iff {e : RosterEntry} {len : Nat} :
    e.takesLength len = true ↔ ∀ i, e.identity = some i → len ≤ i.largest := by
  unfold RosterEntry.takesLength
  cases e.identity <;> simp

theorem ownAmendStream_of_live {s : State} {p : Port} {body : List Byte} {g : AmendArgs} {h : Handle}
    {r : StreamRecord} (hb : readAmend body = some g) (hh : h.val = g.handle.toNat) (hr : s.record h = some r)
    (ho : r.owner = p) (hc : r.state ≠ .closing) :
    ownAmendStream p body s =
      (s.dropAmendment h r).judgeAmend h { r with amendment := none } g r.amendment.isSome := by
  rw [ownAmendStream, hb]
  exact (State.withOwnRecord_of_live hh hr).trans ((if_pos ho).trans (if_neg hc))

theorem boolByte_isSome (o : Option Amendment) : boolByte o.isSome = if o = none then 0#8 else 1#8 := by
  cases o <;> rfl

theorem State.amendRecord_eq_pending (u : State) (h : Handle) (r : StreamRecord) (g : AmendArgs) :
    let q := amendedParams g r.params u.table.load u.trunk.applied.w
    u.amendRecord h { r with amendment := none } g q.phase = { u with
      table :=
        { records := u.table.records.set h.val
            (some { r with amendment := some ⟨q,
              if q.len = r.params.len then none else some (u.store.free.take (amendmentNeeds r.params q))⟩ })
            h.isLt
          load := Vector.ofFn fun k => u.table.load[k.val] + q.chargeAt u.trunk.applied.w k.val }
      store := { u.store with free := u.store.free.drop (amendmentNeeds r.params q) } } := by
  intro q
  have params : g.params r.params q.phase = q := by
    simp only [q]
    rw [← AmendArgs.phaseOf_eq, AmendArgs.params_eq]
  rw [State.amendRecord_eq]
  simp only [State.amendedRecord, params]
  rfl

/-- The checks of AMEND_STREAM after WRONG_STATE, over the parameters the command forms (R33, R169). -/
theorem State.judgeAmend_eq (u : State) (h : Handle) (r : StreamRecord) (g : AmendArgs) (released : Bool) :
    let q := amendedParams g r.params u.table.load u.trunk.applied.w
    u.judgeAmend h { r with amendment := none } g released =
      if g.inRange r.params = false then (u, .reply .badArgument [boolByte released])
      else if (u.node r.node).takesLength q.len = false then (u, .reply .notSupported [boolByte released])
      else if u.store.free.length < amendmentNeeds r.params q then (u, .reply .noSpace [boolByte released])
      else if admissible u.table.load q.period q.phase (13 + q.len + u.trunk.applied.w) u.trunk.admissionLimit = false
        then (u, .reply .noBudget [boolByte released])
      else (u.amendRecord h { r with amendment := none } g q.phase, .reply .ok [boolByte released, byte q.phase]) := by
  intro q
  unfold State.judgeAmend
  dsimp only
  rw [show g.phaseOf r.params u.table.load u.trunk.applied.w = q.phase from AmendArgs.phaseOf_eq _ _ _ _]
  rfl

/-- Settles O18: the earlier amendment released, then each check with the ones before it passed, and the amendment
given. -/
theorem amendStream : Obligations.AmendStream := by
  intro p s c rest g h r hn hb hh hr ho hc
  have own := ownAmendStream_of_live (s := s.taken rest) hb hh.symm hr ho hc
  rw [State.dropAmendment_taken] at own
  refine ⟨s.dropAmendment h r, State.releasedFrom_dropAmendment hr, ?_⟩
  revert own
  generalize s.dropAmendment h r = u
  intro own flag q n fits lengthFits
  have answer : ∀ {t r' bytes}, (u.taken rest).judgeAmend h { r with amendment := none } g r.amendment.isSome =
      (t, .reply r' bytes) → exec (.amendStream p) s = .next (t.compose c.port c.tag r' bytes) :=
    fun hj => congrArg Host.Outcome.next (State.serve_of_reply hn (own.trans hj))
  rw [State.judgeAmend_eq, boolByte_isSome] at answer
  have length : ((u.taken rest).node r.node).takesLength q.len = false ↔ ¬lengthFits := by
    rw [← Bool.not_eq_true, RosterEntry.takesLength_iff]
    rfl
  have charge : admissible u.table.load q.period q.phase (13 + q.len + u.trunk.applied.w) u.trunk.admissionLimit = false ↔
      ¬fits := by
    rw [← Bool.not_eq_true, admissible_iff]
  have ranged : g.inRange r.params = true → ¬g.inRange r.params = false := fun h => by simp [h]
  refine ⟨fun h => answer (t := u.taken rest) (if_pos h), fun hrange => ⟨fun hl => ?_, fun hl => ⟨fun space => ?_,
    fun space hf => ?_, fun space hf => ?_⟩⟩⟩
  · exact answer (t := u.taken rest) ((if_neg (ranged hrange)).trans (if_pos (length.2 hl)))
  all_goals
    have fitting : ¬((u.taken rest).node r.node).takesLength q.len = false := fun h => length.1 h hl
  · exact answer (t := u.taken rest) ((if_neg (ranged hrange)).trans ((if_neg fitting).trans (if_pos space)))
  · exact answer (t := u.taken rest) ((if_neg (ranged hrange)).trans ((if_neg fitting).trans
      ((if_neg (not_lt.2 space)).trans (if_pos (charge.2 hf)))))
  · refine (answer ((if_neg (ranged hrange)).trans ((if_neg fitting).trans ((if_neg (not_lt.2 space)).trans
      (if_neg fun h => charge.1 h hf))))).trans ?_
    rw [State.amendRecord_eq_pending]
    rfl

end Sys2Proof.Machine
end

section
/-! PROOFS. The shared operations of a cycle as the statements describe them: reasons merged into the attention sets, the
settlement, the phases moved on, and an answered report (R109, R117, R122, R126, R133, R148). -/

namespace Sys2Proof.Machine

/-! ### Reasons merged into both attention sets (R147, R148) -/

theorem PerPort.ext_get {α : Type} {v w : PerPort α} (h : ∀ p, v.get p = w.get p) : v = w := by
  obtain ⟨a, b⟩ := v
  obtain ⟨c, d⟩ := w
  exact congrArg₂ PerPort.mk (h .a) (h .b)

theorem Source.exists_index (i : Fin 73) : ∃ src : Source, src.index = i := by
  obtain ⟨i, hi⟩ := i
  obtain rfl | low | high : i = 0 ∨ (1 ≤ i ∧ i < 9) ∨ 9 ≤ i := by omega
  · exact ⟨.global, rfl⟩
  · exact ⟨.request ⟨i - 1, by omega⟩, Fin.ext (by simp only [Source.index]; omega)⟩
  · exact ⟨.stream ⟨i - 9, by omega⟩, Fin.ext (by simp only [Source.index]; omega)⟩

theorem AttnSet.ext_entry {t u : AttnSet} (h : ∀ src, t.entry src = u.entry src) : t = u :=
  Vector.ext fun i hi => by
    obtain ⟨src, hsrc⟩ := Source.exists_index ⟨i, hi⟩
    have entry := h src
    simp only [AttnSet.entry, hsrc] at entry
    exact entry

/-- What a merge of reasons brings a source of a port. -/
def mergedBits (global : ReasonSet) (stream : Port → Handle → ReasonSet) (p : Port) : Source → ReasonSet
  | .global => global
  | .request _ => 0
  | .stream h => stream p h

theorem entry_told (s : State) (global : ReasonSet) (stream : Port → Handle → ReasonSet) (p : Port) (src : Source) :
    ((told s global stream).get p).entry src = (s.attn.get p).entry src ||| mergedBits global stream p src := by
  have merged : ((told s global stream).get p).entry src = (s.attn.get p).entry src |||
      if h : 9 ≤ src.index.val then stream p ⟨src.index.val - 9, by have := src.index.isLt; omega⟩
      else if src.index = 0 then global else 0 := by
    cases p with
    | a | b => exact Vector.getElem_ofFn _
  rw [merged]
  congr 1
  cases src with
  | global => rfl
  | request id =>
    have := id.isLt
    rw [dif_neg (by simp only [Source.index]; omega), if_neg fun h => by
      have val : 1 + id.val = 0 := congrArg Fin.val h
      omega]
    rfl
  | stream h => simp [Source.index, mergedBits]

theorem told_congr {s t : State} (h : t.attn = s.attn) (global : ReasonSet) (stream : Port → Handle → ReasonSet) :
    told t global stream = told s global stream := by
  unfold told
  rw [h]

theorem reasons_or_zero (b : ReasonSet) : b ||| 0 = b := BitVec.or_zero

theorem reasons_zero_or (b : ReasonSet) : 0 ||| b = b := BitVec.zero_or

/-- No reason merged changes nothing. -/
theorem told_nothing (s : State) : told s 0 (fun _ _ => 0) = s.attn :=
  PerPort.ext_get fun p => AttnSet.ext_entry fun src => by
    rw [entry_told]
    cases src <;> simp [mergedBits]

/-- Reasons merged after reasons merged. -/
theorem told_told {s t : State} {g g' : ReasonSet} {f f' : Port → Handle → ReasonSet} (h : t.attn = told s g f) :
    told t g' f' = told s (g ||| g') fun p k => f p k ||| f' p k :=
  PerPort.ext_get fun p => AttnSet.ext_entry fun src => by
    rw [entry_told, h, entry_told, entry_told]
    cases src <;> simp [mergedBits, BitVec.or_assoc]

theorem State.attn_raise_stream (s : State) (p : Port) (h : Handle) (r : Reason) :
    (s.raise p (.stream h) r).attn = told s 0 fun q k => if q = p ∧ k = h then r.bit else 0 :=
  PerPort.ext_get fun q => AttnSet.ext_entry fun src => by
    rw [State.attn_raise, entry_told]
    by_cases hq : q = p
    · subst hq
      rw [PerPort.get_put_same]
      by_cases hs : src = .stream h
      · subst hs
        simp [mergedBits]
      · rw [AttnSet.entry_raise_other _ _ hs]
        cases src <;> simp_all [mergedBits]
    · rw [PerPort.get_put_other _ _ _ _ hq]
      cases src <;> simp [mergedBits, hq]

theorem State.attn_raiseBoth_told (s : State) (r : Reason) : (s.raiseBoth r).attn = told s r.bit fun _ _ => 0 :=
  PerPort.ext_get fun q => AttnSet.ext_entry fun src => by
    have raised : (s.raiseBoth r).attn.get q = (s.attn.get q).raise .global r := by
      cases q <;> rfl
    rw [raised, entry_told]
    by_cases hs : src = .global
    · subst hs
      simp [mergedBits]
    · rw [AttnSet.entry_raise_other _ _ hs]
      cases src <;> simp_all [mergedBits]

/-! ### Steps that change records one by one and tell their owners -/

/-- The records replaced and reasons merged, all else kept. -/
def State.recordwise (s : State) (g : Handle → Option StreamRecord) (m : Port → Handle → ReasonSet) : State :=
  { s with table := { s.table with records := Vector.ofFn g }, attn := told s 0 m }

@[simp] theorem State.record_recordwise (s : State) (g : Handle → Option StreamRecord)
    (m : Port → Handle → ReasonSet) (h : Handle) : (s.recordwise g m).record h = g h := by
  simp [State.recordwise, State.record]

@[simp] theorem State.frame_recordwise (s : State) (g : Handle → Option StreamRecord)
    (m : Port → Handle → ReasonSet) :
    (s.recordwise g m).ports = s.ports ∧ (s.recordwise g m).arbiter = s.arbiter ∧
    (s.recordwise g m).store = s.store ∧ (s.recordwise g m).trunk = s.trunk ∧ (s.recordwise g m).sched = s.sched ∧
    (s.recordwise g m).acyclic = s.acyclic ∧ (s.recordwise g m).engine = s.engine ∧
    (s.recordwise g m).roster = s.roster ∧ (s.recordwise g m).pins = s.pins ∧
    (s.recordwise g m).freeIndex = s.freeIndex ∧ (s.recordwise g m).pending = s.pending := by
  simp only [State.recordwise, and_self]

theorem State.table_recordwise (s : State) (g : Handle → Option StreamRecord) (m : Port → Handle → ReasonSet) :
    (s.recordwise g m).table = { s.table with records := Vector.ofFn g } := by
  simp only [State.recordwise]

theorem State.attn_recordwise (s : State) (g : Handle → Option StreamRecord) (m : Port → Handle → ReasonSet) :
    (s.recordwise g m).attn = told s 0 m := by
  simp only [State.recordwise]

theorem State.recordwise_recordwise (s : State) (g g' : Handle → Option StreamRecord)
    (m m' : Port → Handle → ReasonSet) :
    (s.recordwise g m).recordwise g' m' = s.recordwise g' fun p k => m p k ||| m' p k := by
  have attn : told (s.recordwise g m) 0 m' = told s 0 fun p k => m p k ||| m' p k :=
    (told_told (s.attn_recordwise g m)).trans (by rw [BitVec.or_self])
  exact State.eq_of_fields (by simp) (by rw [State.attn_recordwise, State.attn_recordwise, attn]) (by simp)
    (by rw [State.table_recordwise, State.table_recordwise, State.table_recordwise]) (by simp) (by simp) (by simp)
    (by simp) (by simp) (by simp) (by simp) (by simp) (by simp)

theorem State.recordwise_self (s : State) : s.recordwise s.record (fun _ _ => 0) = s := by
  unfold State.recordwise
  rw [told_nothing]
  have records : Vector.ofFn s.record = s.table.records := Vector.ext fun i hi => by simp [State.record]
  rw [records]

/-- A step that replaces the record at one handle and tells its owner. -/
def State.recordAt (s : State) (h : Handle) (o : Option StreamRecord) (m : Port → ReasonSet) : State :=
  s.recordwise (fun k => if k = h then o else s.record k) fun p k => if k = h then m p else 0

theorem State.recordAt_self {s : State} {h : Handle} {o : Option StreamRecord} (ho : s.record h = o) :
    s.recordAt h o (fun _ => 0) = s := by
  have same : (fun k => if k = h then o else s.record k) = s.record := funext fun k => by
    split
    · next e => rw [e, ho]
    · rfl
  rw [State.recordAt, same]
  simpa using s.recordwise_self

theorem State.setRecord_eq_recordAt (s : State) (h : Handle) (o : Option StreamRecord) :
    s.setRecord h o = s.recordAt h o fun _ => 0 := by
  have records : (Vector.ofFn fun k : Handle => if k = h then o else s.record k) = s.table.records.set h.val o h.isLt :=
    Vector.ext fun i hi => by
      simp only [Vector.getElem_ofFn, Vector.getElem_set, Fin.ext_iff, State.record, eq_comm]
  unfold State.recordAt State.recordwise
  rw [records]
  simp only [ite_self]
  rw [told_nothing]
  rfl

theorem State.setRecord_raise_eq_recordAt (s : State) (h : Handle) (o : Option StreamRecord) (p : Port) (r : Reason) :
    (s.setRecord h o).raise p (.stream h) r = s.recordAt h o fun q => if q = p then r.bit else 0 := by
  have attn : ((s.setRecord h o).raise p (.stream h) r).attn =
      told s 0 fun q k => if k = h then if q = p then r.bit else 0 else 0 := by
    rw [State.attn_raise_stream, told_congr (s := s) (t := s.setRecord h o) rfl]
    refine congrArg (told s 0) (funext fun q => funext fun k => ?_)
    by_cases hk : k = h <;> simp [hk]
  have table : (s.setRecord h o).table = (s.recordAt h o fun _ => 0).table :=
    congrArg State.table (s.setRecord_eq_recordAt h o)
  exact State.eq_of_fields rfl attn rfl table rfl rfl rfl rfl rfl rfl rfl rfl rfl

/-- A walk over distinct handles that changes each record by what it finds there. -/
theorem State.foldl_recordAt {f : State → Handle → State} {g : Handle → Option StreamRecord → Option StreamRecord}
    {m : Handle → Option StreamRecord → Port → ReasonSet}
    (hf : ∀ s h, f s h = s.recordAt h (g h (s.record h)) (m h (s.record h))) {l : List Handle} (hl : l.Nodup)
    (s : State) :
    l.foldl f s = s.recordwise (fun k => if k ∈ l then g k (s.record k) else s.record k)
      fun p k => if k ∈ l then m k (s.record k) p else 0 := by
  induction l generalizing s with
  | nil => simpa using s.recordwise_self.symm
  | cons h l ih =>
    obtain ⟨hh, hl⟩ := List.nodup_cons.1 hl
    rw [List.foldl_cons, ih hl, hf, State.recordAt, State.recordwise_recordwise]
    simp only [State.record_recordwise]
    congr 1
    · funext k
      by_cases hk : k = h
      · subst hk
        simp [hh]
      · simp [hk]
    · funext p k
      by_cases hk : k = h
      · subst hk
        simp [hh]
      · simp [hk]

/-! ### The settlement (R109, R110) -/

/-- What a miss counted tells the owner of a record. -/
def missBits (o : Option StreamRecord) (p : Port) : ReasonSet :=
  match o with
  | none => 0
  | some q =>
    if q.owner = p ∧ q.state = .active ∧ q.params.missLimit = some (missed q).counters.consecutive then
      Reason.missLimit.bit
    else 0

/-- A record with a miss counted while it is ACTIVE. -/
def countedMiss (o : Option StreamRecord) : Option StreamRecord :=
  o.map fun q => if q.state = .active then missed q else q

theorem State.countMiss_eq (s : State) (h : Handle) :
    s.countMiss h = s.recordAt h (countedMiss (s.record h)) (missBits (s.record h)) := by
  unfold State.countMiss countedMiss missBits
  cases hr : s.record h with
  | none => exact (State.recordAt_self hr).symm
  | some q =>
    dsimp only [Option.map_some]
    by_cases ha : q.state = .active
    · rw [if_pos ha, if_pos ha]
      split
      · next hm =>
        have limit : q.params.missLimit = some (missed q).counters.consecutive := hm
        rw [State.setRecord_raise_eq_recordAt]
        refine congrArg (s.recordAt h (some (missed q))) (funext fun p => ?_)
        simp only [ha, limit, and_true, eq_comm (a := p)]
      · next hm =>
        have limit : ¬q.params.missLimit = some (missed q).counters.consecutive := hm
        rw [State.setRecord_eq_recordAt]
        refine congrArg (s.recordAt h (some (missed q))) (funext fun p => ?_)
        simp only [limit, and_false, if_false]
    · rw [if_neg ha, if_neg ha]
      simp only [ha, false_and, and_false, if_false]
      exact (State.recordAt_self hr).symm

/-- The handles whose entries are UNSERVED, in the order of the entries. -/
def State.unserved (s : State) : List Handle :=
  (s.sched.entries.filter fun e => decide (e.disposition = .unserved)).map ServiceEntry.handle

theorem State.settle_eq_foldl (s : State) : s.settle = s.unserved.foldl State.countMiss s := by
  rw [State.unserved, List.foldl_map, List.foldl_filter]
  simp only [decide_eq_true_eq]
  rfl

theorem State.unserved_nodup {s : State} (hs : s.EntriesOnce) : s.unserved.Nodup :=
  hs.sublist (List.filter_sublist.map _)

theorem countsMiss_iff {s : State} {k : Handle} {q : StreamRecord} :
    countsMiss s k q = true ↔ q.state = .active ∧ k ∈ s.unserved := by
  simp only [countsMiss, State.unserved, Bool.and_eq_true, beq_iff_eq, List.any_eq_true, List.mem_map, List.mem_filter,
    decide_eq_true_eq]
  exact and_congr_right fun _ => exists_congr fun e => by tauto

theorem settledCycle_eq (s : State) :
    settledCycle s = s.recordwise (fun k => (s.record k).map fun q => if countsMiss s k q then missed q else q)
      fun p k => (s.record k).elim 0 fun q =>
        if q.owner = p ∧ countsMiss s k q = true ∧ q.params.missLimit = some (missed q).counters.consecutive then
          Reason.missLimit.bit
        else 0 := by
  unfold settledCycle State.recordwise
  dsimp only
  congr 2
  funext p k
  cases s.record k <;> rfl

theorem State.settle_eq {s : State} (hs : s.EntriesOnce) : s.settle = settledCycle s := by
  have walk := State.foldl_recordAt (f := State.countMiss)
    (g := fun _ => countedMiss) (m := fun _ => missBits) State.countMiss_eq (State.unserved_nodup hs) s
  rw [State.settle_eq_foldl, walk, settledCycle_eq]
  congr 1
  · funext k
    cases s.record k with
    | none => simp [countedMiss]
    | some q => by_cases hl : k ∈ s.unserved <;> simp [countedMiss, countsMiss_iff, hl]
  · funext p k
    cases s.record k with
    | none => simp [missBits]
    | some q => by_cases hl : k ∈ s.unserved <;> simp [countsMiss_iff, hl, missBits]

/-! ### The phases moved on (R67, R68, R98, R106, R109, R126, R133) -/

theorem State.endPieces_of_pieces {s : State} (h : s.trunk.phase = .pieces) :
    s.endPieces = { s with trunk := { s.trunk with phase := acyclicPhase s false } } := by
  unfold State.endPieces acyclicPhase AcyclicScheduler.headBlocked
  cases hg : s.trunk.guard with
  | true => simp [h, State.updTrunk]
  | false =>
    cases hq : s.acyclic.queue with
    | nil => simp [h, State.updTrunk]
    | cons id rest =>
      by_cases hd : id ∈ s.acyclic.deferred
      · simp [h, hd, State.updTrunk]
      · rw [if_neg (by simp [hd])]
        simp only [Bool.false_eq_true, if_false, false_and, hd]
        rw [← h]

theorem State.endPieces_of_other {s : State} (h : s.trunk.phase ≠ .pieces) : s.endPieces = s :=
  if_neg fun hc => h hc.1

/-- Probe service goes on exactly while an address is listed, fewer than two were probed and the guard has not begun. -/
theorem acyclicPhase_of_probing {s : State}
    (h : ¬(2 ≤ s.acyclic.probesRun ∨ s.acyclic.probeList = [] ∨ s.trunk.guard = true)) :
    acyclicPhase s true = .probes := by
  obtain ⟨run, list, guard⟩ : ¬2 ≤ s.acyclic.probesRun ∧ s.acyclic.probeList ≠ [] ∧ ¬s.trunk.guard = true := by
    simpa only [not_or] using h
  rw [acyclicPhase, if_neg guard, if_pos ⟨rfl, list, by omega⟩]

theorem acyclicPhase_of_probed {s : State}
    (h : 2 ≤ s.acyclic.probesRun ∨ s.acyclic.probeList = [] ∨ s.trunk.guard = true) :
    acyclicPhase s true = acyclicPhase s false := by
  unfold acyclicPhase
  by_cases guard : s.trunk.guard = true
  · rw [if_pos guard, if_pos guard]
  · have ended : ¬(s.acyclic.probeList ≠ [] ∧ s.acyclic.probesRun < 2) := fun ⟨list, run⟩ => by
      rcases h with h | h | h
      · omega
      · exact list h
      · exact guard h
    rw [if_neg guard, if_neg guard, if_neg fun hc => ended hc.2, if_neg fun hc => nomatch hc.1]

theorem State.endProbes_endPieces_of_probes {s : State} (h : s.trunk.phase = .probes) :
    s.endProbes.endPieces = { s with trunk := { s.trunk with phase := acyclicPhase s true } } := by
  unfold State.endProbes
  by_cases hc : 2 ≤ s.acyclic.probesRun ∨ s.acyclic.probeList = [] ∨ s.trunk.guard = true
  · rw [if_pos ⟨h, hc⟩, State.endPieces_of_pieces rfl, acyclicPhase_of_probed hc]
    rfl
  · rw [if_neg fun hx => hc hx.2, State.endPieces_of_other (by simp [h]), acyclicPhase_of_probing hc, ← h]

theorem State.endProbes_of_other {s : State} (h : s.trunk.phase ≠ .probes) : s.endProbes = s :=
  if_neg fun hc => h hc.1

theorem State.endRetry_of_other {s : State} (h : s.trunk.phase ≠ .retry) : s.endRetry = s :=
  if_neg fun hc => h hc.1

theorem State.endCyclic_of_other {s : State} (h : s.trunk.phase ≠ .cyclic) : s.endCyclic = s :=
  if_neg fun hc => h hc.1

/-- RETRY ended: the settlement, and ACYCLIC as far as it goes. -/
theorem State.settle_beginAcyclic_eq {s : State} (hs : s.EntriesOnce) :
    s.settle.beginAcyclic.endProbes.endPieces = acyclicBegun s := by
  rw [State.settle_eq hs, State.endProbes_endPieces_of_probes rfl]
  rfl

/-- The phases from RETRY on. -/
theorem State.endRetry_on {s : State} (hs : s.EntriesOnce) (h : s.trunk.phase = .retry) :
    s.endRetry.endProbes.endPieces = if s.sched.retry ≠ [] then s else acyclicBegun s := by
  unfold State.endRetry
  by_cases hr : s.sched.retry = []
  · rw [if_pos ⟨h, hr⟩, if_neg (not_not.2 hr), State.settle_beginAcyclic_eq hs]
  · rw [if_neg fun hc => hr hc.2, if_pos hr, State.endProbes_of_other (by simp [h]),
      State.endPieces_of_other (by simp [h])]

theorem acyclicBegun_of_phase (s : State) (ph : Phase) :
    acyclicBegun { s with trunk := { s.trunk with phase := ph } } = acyclicBegun s := rfl

/-- The phases moved on, as the statements describe it. -/
theorem State.advance_eq {s : State} (hs : s.EntriesOnce) : s.advance = movedOn s := by
  unfold State.advance movedOn
  cases hi : s.engine.state.inFlight with
  | some x => simp
  | none =>
    dsimp only
    rw [if_neg (by simp)]
    cases hp : s.trunk.phase with
    | cyclic =>
      dsimp only
      unfold State.endCyclic
      by_cases hw : ∃ e, e ∈ s.sched.entries ∧ e.disposition = .waiting
      · have waits : ¬(s.sched.entries.all fun e => e.disposition != .waiting) = true := by simpa using hw
        rw [if_pos hw, if_neg fun hc => waits hc.2, State.endRetry_of_other (by simp [hp]),
          State.endProbes_of_other (by simp [hp]), State.endPieces_of_other (by simp [hp])]
      · have none_waits : (s.sched.entries.all fun e => e.disposition != .waiting) = true := by simpa using hw
        rw [if_neg hw, if_pos ⟨hp, none_waits⟩, State.updTrunk, State.endRetry_on (by exact hs) (by rfl),
          acyclicBegun_of_phase]
    | retry =>
      rw [State.endCyclic_of_other (by simp [hp]), State.endRetry_on hs hp]
    | probes =>
      rw [State.endCyclic_of_other (by simp [hp]), State.endRetry_of_other (by simp [hp]),
        State.endProbes_endPieces_of_probes hp]
    | pieces =>
      rw [State.endCyclic_of_other (by simp [hp]), State.endRetry_of_other (by simp [hp]),
        State.endProbes_of_other (by simp [hp]), State.endPieces_of_pieces hp]
    | _ =>
      rw [State.endCyclic_of_other (by simp [hp]), State.endRetry_of_other (by simp [hp]),
        State.endProbes_of_other (by simp [hp]), State.endPieces_of_other (by simp [hp])]

/-! ### An answered report (R9, R115, R117, R122) -/

/-- A SUSPENDED record of a node that is back. -/
def resumedAt (n : Node) (o : Option StreamRecord) : Option StreamRecord :=
  o.map fun r => if r.node = n ∧ r.state = .suspended then { r with state := .active, seqBit := false, resync := true } else r

/-- What the return of a node tells the owner of a record. -/
def resumeBits (n : Node) (o : Option StreamRecord) (p : Port) : ReasonSet :=
  match o with
  | none => 0
  | some r => if r.owner = p ∧ r.node = n ∧ r.state = .suspended then Reason.resumed.bit else 0

theorem State.resumeRecord_eq (n : Node) (s : State) (h : Handle) :
    State.resumeRecord n s h = s.recordAt h (resumedAt n (s.record h)) (resumeBits n (s.record h)) := by
  unfold State.resumeRecord resumedAt resumeBits
  cases hr : s.record h with
  | none => exact (State.recordAt_self hr).symm
  | some r =>
    dsimp only [Option.map_some]
    by_cases hb : r.node = n ∧ r.state = .suspended
    · rw [if_pos hb, if_pos hb, State.setRecord_raise_eq_recordAt]
      refine congrArg (s.recordAt h _) (funext fun p => ?_)
      simp only [hb, and_true, eq_comm (a := p), and_self]
    · rw [if_neg hb, if_neg hb]
      simp only [hb, and_false, if_false]
      exact (State.recordAt_self hr).symm

theorem State.nodeRecovered_eq (s : State) (n : Node) :
    s.nodeRecovered n = s.recordwise (fun k => resumedAt n (s.record k)) fun p k => resumeBits n (s.record k) p := by
  have walk := State.foldl_recordAt (f := State.resumeRecord n) (g := fun _ => resumedAt n)
    (m := fun _ => resumeBits n) (State.resumeRecord_eq n) (List.nodup_finRange 64) s
  simpa only [List.mem_finRange, if_true, State.nodeRecovered, handles] using walk

theorem State.attn_reportAnswered (s : State) (n : Node) (i : Option Identity) :
    (s.reportAnswered n i).attn = told s (if (s.node n).state = .present then 0 else Reason.rosterChanged.bit)
      fun p k => if (s.node n).state = .lost then resumeBits n (s.record k) p else 0 := by
  unfold State.reportAnswered
  dsimp only
  generalize he : (s.node n).state = e
  cases e with
  | present =>
    simp only [if_true, reduceCtorEq, if_false]
    exact (told_nothing s).symm
  | unknown | absent =>
    simp only [reduceCtorEq, if_false]
    exact (State.attn_raiseBoth_told _ _).trans (told_congr rfl _ _)
  | lost =>
    simp only [if_true, reduceCtorEq, if_false]
    rw [State.nodeRecovered_eq, State.attn_recordwise]
    have raised := (State.attn_raiseBoth_told (s.setNode n
      { s.node n with state := .present, failures := 0, identity := i.or (s.node n).identity }) .rosterChanged).trans
      (told_congr (State.attn_setNode s n _) _ _)
    refine (told_told raised).trans ?_
    rw [reasons_or_zero]
    exact congrArg (told s _) (funext fun p => funext fun k => reasons_zero_or _)

theorem State.table_reportAnswered (s : State) (n : Node) (i : Option Identity) :
    (s.reportAnswered n i).table = { s.table with
      records := Vector.ofFn fun k => if (s.node n).state = .lost then resumedAt n (s.record k) else s.record k } := by
  have records : (Vector.ofFn fun k => s.record k) = s.table.records := Vector.ext fun i hi => by simp [State.record]
  unfold State.reportAnswered
  dsimp only
  generalize he : (s.node n).state = e
  cases e with
  | present | unknown | absent =>
    simp only [if_true, reduceCtorEq, if_false, records]
    rfl
  | lost =>
    simp only [if_true, reduceCtorEq, if_false]
    rw [State.nodeRecovered_eq, State.table_recordwise]
    rfl

theorem State.roster_reportAnswered (s : State) (n : Node) (i : Option Identity) :
    (s.reportAnswered n i).roster =
      withNode s n { s.node n with state := .present, failures := 0, identity := i.or (s.node n).identity } := by
  unfold State.reportAnswered
  dsimp only
  split <;> split <;> simp [withNode]

theorem State.reportAnswered_eq (s : State) (n : Node) (i : Option Identity) :
    s.reportAnswered n i = nodeAnswered s n i := by
  refine State.eq_of_fields (by simp [nodeAnswered]) ?_ (by simp [nodeAnswered]) ?_ (by simp [nodeAnswered])
    (by simp [nodeAnswered]) (by simp [nodeAnswered]) (by simp [nodeAnswered]) (by simp [nodeAnswered]) ?_
    (by simp [nodeAnswered]) (by simp [nodeAnswered]) (by simp [nodeAnswered])
  · rw [State.attn_reportAnswered]
    unfold nodeAnswered
    dsimp only
    refine congrArg (told s _) (funext fun p => funext fun k => ?_)
    cases s.record k with
    | none => simp [resumeBits]
    | some r => by_cases hl : (s.node n).state = .lost <;> simp [resumeBits, hl]
  · rw [State.table_reportAnswered]
    unfold nodeAnswered
    dsimp only
    refine congrArg (fun v => { s.table with records := v }) (Vector.ext fun k hk => ?_)
    simp only [Vector.getElem_ofFn, Vector.getElem_map, State.record]
    cases s.table.records[k] with
    | none => simp [resumedAt]
    | some r => by_cases hl : (s.node n).state = .lost <;> simp [resumedAt, hl]
  · rw [State.roster_reportAnswered]
    unfold nodeAnswered
    dsimp only
    cases i <;> rfl

end Sys2Proof.Machine
end

section
/-! PROOFS. The ends of exchanges as the statements describe them: a record off the lists, a parked command ended, a CLOSING
record or a CANCELLING request freed at its end, reply bytes placed, a poll started, and entry to FAULTED (R15, R74, R84,
R90, R97, R142, R162). -/

namespace Sys2Proof.Machine

/-! ### Off the lists and off the queue (R97, R132) -/

theorem State.sched_excuse (s : State) (h : Handle) : (s.excuse h).sched = unlisted s h := by
  simp [State.excuse, unlisted, bne, beq_eq_decide]

theorem State.acyclic_leaveQueue_setRequest (s : State) (id : ReqId) (o : Option Request) :
    ((s.leaveQueue id).setRequest id o).acyclic = outOfQueue s id o := by
  simp [State.leaveQueue, outOfQueue, bne, beq_eq_decide]

/-! ### The parked command ended (R162, R164) -/

/-- A parked command is answered at the end of its exchange exactly with the body it waits for. -/
theorem State.answerParked_eq {s : State} {waited : ParkKind → Bool} {body : ParkKind → List Byte}
    {answer : ParkKind → Option (List Byte)}
    (h : ∀ k, answer k = if waited k = true then some (body k) else none) :
    s.answerParked waited body = unparked s answer := by
  unfold State.answerParked unparked
  cases s.arbiter.parked with
  | none => rfl
  | some k =>
    dsimp only
    rw [h]
    by_cases hw : waited k.kind = true
    · rw [if_pos hw, if_pos hw]
      cases k.orphan <;> rfl
    · rw [if_neg hw, if_neg hw]

theorem closeAnswer_eq (h : Handle) (k : ParkKind) :
    closeAnswer h k = if k.closes h = true then some k.closeBody else none := by
  cases k with
  | close h' dropped =>
    by_cases e : h' = h
    · subst e
      simp [closeAnswer, ParkKind.closes, ParkKind.closeBody, boolByte]
    · simp [closeAnswer, ParkKind.closes, e]
  | cancel id => rfl

theorem cancelAnswer_eq (id : ReqId) (q : Request) (k : ParkKind) :
    cancelAnswer id q k =
      if k.cancels id = true then some ([byte (reqStateCode .active)] ++ be16 q.progress) else none := by
  cases k with
  | close h dropped => rfl
  | cancel id' =>
    by_cases e : id' = id
    · subst e
      simp [cancelAnswer, ParkKind.cancels, reqStateCode]
      rfl
    · simp [cancelAnswer, ParkKind.cancels, e]

@[simp] theorem frame_unparked (s : State) (body : ParkKind → Option (List Byte)) :
    (unparked s body).attn = s.attn ∧ (unparked s body).table = s.table ∧ (unparked s body).store = s.store ∧
    (unparked s body).trunk = s.trunk ∧ (unparked s body).sched = s.sched ∧
    (unparked s body).acyclic = s.acyclic ∧ (unparked s body).engine = s.engine ∧
    (unparked s body).roster = s.roster ∧ (unparked s body).pins = s.pins ∧
    (unparked s body).freeIndex = s.freeIndex ∧ (unparked s body).pending = s.pending := by
  unfold unparked
  split
  · simp
  · split <;> simp

/-- Which command is ended, and how, turns on the ports and the arbiter alone. -/
theorem unparked_congr {s t : State} (ports : t.ports = s.ports) (arbiter : t.arbiter = s.arbiter)
    (body : ParkKind → Option (List Byte)) :
    (unparked t body).ports = (unparked s body).ports ∧ (unparked t body).arbiter = (unparked s body).arbiter := by
  unfold unparked
  rw [arbiter, ports]
  cases hp : s.arbiter.parked with
  | none => exact ⟨ports, arbiter⟩
  | some k =>
    dsimp only
    cases body k.kind with
    | none => exact ⟨ports, arbiter⟩
    | some bytes => exact ⟨rfl, rfl⟩

/-! ### A record or a request freed at the end of its exchange (R13, R15, R142) -/

theorem State.roster_freeRecord (s : State) (h : Handle) (r : StreamRecord) :
    (s.freeRecord h r).roster = withNode s r.node { s.node r.node with streams := (s.node r.node).streams - 1 } := by
  simp only [State.freeRecord, State.roster_excuse, State.roster_setRecord, State.countStreamOut, State.roster_setNode,
    State.roster_releaseBlocks, State.roster_discharge, withNode, State.node]

theorem State.mem_free_freeRecord {s : State} {h : Handle} {r : StreamRecord} {b : Block} :
    b ∈ (s.freeRecord h r).store.free ↔ b ∈ s.store.free ∨ b ∈ r.blocks := by
  rw [State.free_freeRecord, State.mem_releaseBlocks]

theorem State.closedAtEnd_endClosing (s : State) (h : Handle) (r : StreamRecord) :
    closedAtEnd s h r (s.endClosing h r) := by
  have ended : s.endClosing h r = unparked (s.freeRecord h r) (closeAnswer h) :=
    State.answerParked_eq (closeAnswer_eq h)
  have answer := unparked_congr (t := s.freeRecord h r) (s := s) (by simp) (by simp) (closeAnswer h)
  have table : (s.endClosing h r).table = ⟨s.table.records.set h.val none h.isLt, (s.endClosing h r).table.load⟩ := by
    rw [ended, (frame_unparked _ _).2.1, State.table_freeRecord]
  have store : (s.endClosing h r).store = { s.store with free := (s.endClosing h r).store.free } := by
    rw [ended, (frame_unparked _ _).2.2.1, State.free_freeRecord]
    rfl
  refine ⟨State.eq_of_fields ?_ (by simp) ?_ table store (by simp) ?_ (by simp) (by simp) ?_ (by simp) (by simp)
    (by simp), fun k => ?_, fun b => ?_⟩
  · rw [ended]
    exact answer.1
  · rw [ended]
    exact answer.2
  · rw [ended, (frame_unparked _ _).2.2.2.2.1, State.sched_freeRecord, State.sched_excuse]
  · rw [ended, (frame_unparked _ _).2.2.2.2.2.2.2.1, State.roster_freeRecord]
  · rw [ended, (frame_unparked _ _).2.1, State.load_freeRecord]
  · rw [ended, (frame_unparked _ _).2.2.1, State.mem_free_freeRecord]

theorem State.endCancelling_eq (s : State) (id : ReqId) (q : Request) :
    s.endCancelling id q = cancelledAtEnd s id q := by
  have ended : s.endCancelling id q = unparked (s.freeRequest id) (cancelAnswer id q) :=
    State.answerParked_eq (cancelAnswer_eq id q)
  have answer := unparked_congr (t := s.freeRequest id) (s := s) (by simp) (by simp) (cancelAnswer id q)
  have acyclic : (s.freeRequest id).acyclic = outOfQueue s id none := by
    rw [State.freeRequest_eq]
  rw [ended]
  unfold cancelledAtEnd
  exact State.eq_of_fields answer.1 (by simp) answer.2 (by simp) (by simp) (by simp) (by simp) (by simp [acyclic])
    (by simp) (by simp) (by simp) (by simp) (by simp)

end Sys2Proof.Machine
end

section
/-! PROOFS. The clock's plain events: marks, halts, the ends of a poll and of quieting, the phases' moments, a lease that
expires (R17, R59, R63, R64, R67, R68, R70, R71, R82, R87, R88, R182). -/

namespace Sys2Proof.Machine

/-! ### The line and the engine's moments -/

theorem State.window_of_reaches {s : State} {x : Exchange} {m : Nat} (hx : s.engine.state = .awaiting x)
    (h : s.reaches m = true) : m ≤ x.pollEnd + s.trunk.applied.w := by
  simp only [State.reaches, State.engineDeadline, hx, notAfter, Bool.and_eq_true, decide_eq_true_eq] at h
  obtain ⟨⟨⟨_, bound⟩, _⟩, _⟩ := h
  exact bound

theorem State.txd_transmitting {s : State} {frame : List Byte} (htx : s.pins.tx = some frame) (n : Nat) :
    s.txd n = (lineBits frame)[n]? := by
  rw [State.txd, htx]
  rfl

theorem byteLineBits_data (b : Byte) (i : Nat) (hi : i < 8) : (byteLineBits b)[1 + i]? = some (.data (b.getLsbD i)) := by
  obtain rfl | rfl | rfl | rfl | rfl | rfl | rfl | rfl :
      i = 0 ∨ i = 1 ∨ i = 2 ∨ i = 3 ∨ i = 4 ∨ i = 5 ∨ i = 6 ∨ i = 7 := by omega
  all_goals rfl

theorem State.txd_byte {s : State} {frame : List Byte} {k : Nat} {b : Byte} (htx : s.pins.tx = some frame)
    (hb : frame[k]? = some b) (i : Nat) (hi : i < 10) : s.txd (10 * k + i) = (byteLineBits b)[i]? := by
  rw [State.txd_transmitting htx, lineBits_get _ _ _ hi, hb]
  rfl

/-- Settles O52: each event is its row's equation; a late reply lies past the window's deadline. -/
theorem engineTiming : Obligations.EngineTiming := by
  intro s
  refine ⟨fun x hx hm => ?_, fun x after hx => ⟨fun hm => ?_, fun late => ?_⟩, fun slotEnd after hq h1 hm => ?_,
    fun htx => ⟨?_, fun n => ?_⟩, fun frame htx => ⟨?_, fun n hn => ?_, fun k b hb => ⟨?_, fun i hi => ?_, ?_⟩⟩,
    fun elapsed receiving hi htx => ⟨fun ht => ?_, fun ht hm => ?_⟩⟩
  · show execPollSent s = _
    simp only [execPollSent, hx, hm, if_true]
    rfl
  · show execReplyBegin after s = _
    simp only [execReplyBegin, hx, hm, if_true]
    rfl
  · show execReplyBegin after s = _
    have missed : ¬s.reaches (x.pollEnd + after) = true := fun hm => by
      have bound := State.window_of_reaches hx hm
      omega
    simp only [execReplyBegin, hx, missed, Bool.false_eq_true, if_false]
  · show execQuietingEnd after s = _
    simp only [execQuietingEnd, hq, h1, hm, and_self, if_true]
    rfl
  · simp [State.txen, htx]
  · simp [State.txd, htx]
  · simp [State.txen, htx]
  · rw [State.txd_transmitting htx]
    exact List.getElem?_eq_none (by rw [length_lineBits]; exact hn)
  · exact State.txd_byte htx hb 0 (by omega)
  · rw [Nat.add_assoc, State.txd_byte htx hb (1 + i) (by omega), byteLineBits_data b i hi]
  · exact State.txd_byte htx hb 9 (by omega)
  · show execStrayBytes elapsed receiving s = _
    rw [execStrayBytes, if_pos ⟨hi, htx⟩]
    dsimp only
    rw [ht]
    rfl
  · show execStrayBytes elapsed receiving s = _
    rw [execStrayBytes, if_pos ⟨hi, htx⟩]
    dsimp only
    split
    · next none => exact absurd none ht
    · exact if_pos hm

/-! ### Restart marks and halts (R63, R64, R70, R71) -/

theorem State.beginRestartMark_eq (s : State) :
    s.beginRestartMark =
      let u := afterStaging s.trunk
      { s with
        trunk := { u with marksSent := u.marksSent + 1, clock := 0, timer := some u.applied.c }
        attn := raisedAfterStaged s none
        pins := { s.pins with
          tx := some (withCrc ([63, 0x01, byte (3 - u.marksSent)] ++ be16 u.applied.c ++ [byte u.applied.w])) } } := by
  unfold State.beginRestartMark
  rw [State.applyStaged_eq]
  rfl

/-- Settles O44: a mark on a quiet line is begun, a mark's end and a drain's end carry out a halt. -/
theorem restartMarksAndHalts : Obligations.RestartMarksAndHalts := by
  intro s
  refine ⟨fun hs hn hd hq => ?_, fun hs htx => ?_, fun hs hd hq => ?_⟩
  · show execRestartMarkDue s = _
    rw [execRestartMarkDue, if_pos ⟨hs, hn, hd⟩, State.restartMarkFallsDue, hq, if_neg (by decide),
      State.beginRestartMark_eq]
  · show execRestartMarkEnd s = _
    rw [execRestartMarkEnd, if_pos ⟨hs, Option.isSome_iff_ne_none.2 htx⟩]
    dsimp only
    rw [State.enterHalted_eq]
    exact (apply_ite Host.Outcome.next _ _ _).symm
  · show execDrainEnd s = _
    rw [execDrainEnd, if_pos ⟨hs, hd⟩, hq, if_neg (by decide), State.enterHalted_eq]

/-! ### The phases' moments (R67, R68) -/

/-- Settles O48: both events set the moment and move the phases on. -/
theorem cyclePhases : Obligations.CyclePhases := by
  intro s hs hc
  refine ⟨fun hp => ?_, fun hi hm hg hr => ?_⟩
  · show execCycleMarkEnd s = _
    rw [execCycleMarkEnd, if_pos ⟨hc, hp⟩, State.advance_eq (by exact hs)]
    rfl
  · show execGuardStart s = _
    rw [execGuardStart, if_pos ⟨hc, hi, hm, hg, hr⟩, State.advance_eq (by exact hs)]
    rfl

/-! ### A record freed with all it holds (R12, R13) -/

theorem State.retire_of_idle {s : State} {h : Handle} {r : StreamRecord} (hc : r.state ≠ .closing)
    (hf : s.recordInFlight h = false) :
    s.retire h r = (s.dropAmendment h r).freeRecord h { r with amendment := none } := by
  rw [State.retire, if_neg hc, hf]
  exact if_neg (by decide)

theorem State.retire_in_flight {s : State} {h : Handle} {r : StreamRecord} (hc : r.state ≠ .closing)
    (hf : s.recordInFlight h = true) : s.retire h r =
      ((s.dropAmendment h r).setRecord h (some { r with amendment := none, state := .closing })).excuse h := by
  rw [State.retire, if_neg hc, hf]
  exact if_pos rfl

/-- What the freeing of a record leaves of each part of the state: `u` is `s` without it (R12, R13, R97, R124). -/
structure State.FreedWhole (s : State) (h : Handle) (r : StreamRecord) (u : State) : Prop where
  replaced : s.Replaced h none u
  load : ∀ k : Fin 128, u.table.load[k.val] = s.table.load[k.val] - r.chargedAt s.trunk.applied.w k
  mem : u.store.mem = s.store.mem
  free : ∀ b, b ∈ u.store.free ↔ b ∈ s.store.free ∨ b ∈ r.listedBlocks
  roster : u.roster = withNode s r.node { s.node r.node with streams := (s.node r.node).streams - 1 }
  sched : u.sched = unlisted s h
  kept : u.ports = s.ports ∧ u.attn = s.attn ∧ u.arbiter = s.arbiter ∧ u.trunk = s.trunk ∧ u.acyclic = s.acyclic ∧
    s.SameLine u

theorem State.replaced_dropAmendment_freeRecord (s : State) (h : Handle) (r q : StreamRecord) :
    s.Replaced h none ((s.dropAmendment h r).freeRecord h q) :=
  ⟨by rw [State.record_freeRecord, if_pos rfl],
    fun k hk => by rw [State.record_freeRecord, if_neg hk, State.record_dropAmendment_other hk]⟩

theorem State.mem_free_dropAmendment {s : State} {h : Handle} {r : StreamRecord} {b : Block} :
    b ∈ (s.dropAmendment h r).store.free ↔
      b ∈ s.store.free ∨ b ∈ r.amendment.elim [] fun am => am.blocks.getD [] := by
  rw [State.free_dropAmendment, State.mem_releaseBlocks]

theorem State.freedWhole_retire {s : State} {h : Handle} {r : StreamRecord} (hc : r.state ≠ .closing)
    (hf : s.recordInFlight h = false) : s.FreedWhole h r (s.retire h r) := by
  rw [State.retire_of_idle hc hf]
  exact {
    replaced := s.replaced_dropAmendment_freeRecord h r _
    load := fun k => by
      have trunk : (s.dropAmendment h r).trunk = s.trunk := by simp
      rw [State.load_freeRecord, State.load_dropAmendment, StreamRecord.chargedAt_eq, trunk, Nat.sub_sub, Nat.add_comm]
    mem := by
      rw [State.free_freeRecord, State.mem_store_releaseBlocks, State.free_dropAmendment, State.mem_store_releaseBlocks]
    free := fun b => by
      rw [State.mem_free_freeRecord, State.mem_free_dropAmendment, StreamRecord.listedBlocks_eq, List.mem_append]
      tauto
    roster := by
      rw [State.roster_freeRecord]
      simp [withNode, State.node]
    sched := by
      rw [State.sched_freeRecord, State.sched_excuse]
      simp [unlisted]
    kept := by simp [State.SameLine] }

theorem State.node_of_roster {s u : State} {n : Node} {e : RosterEntry} (hu : u.roster = withNode s n e) (m : Node) :
    u.node m = if m = n then e else s.node m := by
  simp only [State.node, hu, withNode, Vector.getElem_set, Fin.ext_iff, eq_comm]

theorem State.expireLease_of_none {s : State} {h : Handle} (hr : s.record h = none) : s.expireLease h = s := by
  rw [State.expireLease, hr]

theorem State.expireLease_of_live {s : State} {h : Handle} {r : StreamRecord} (hr : s.record h = some r) :
    s.expireLease h =
      if s.trunk.state = .running ∧ r.leaseRemaining = some 0 ∧ r.state ≠ .closing then
        (s.retire h r).raise r.owner (.stream h) .expired
      else s := by
  rw [State.expireLease, hr]

theorem State.entry_raise (s : State) (p : Port) (src : Source) (r : Reason) (q : Port) (src' : Source) :
    ((s.raise p src r).attn.get q).entry src' =
      (s.attn.get q).entry src' ||| if q = p ∧ src' = src then r.bit else 0 := by
  rw [State.attn_raise]
  by_cases hq : q = p
  · subst hq
    rw [PerPort.get_put_same]
    by_cases hs : src' = src
    · subst hs
      simp
    · rw [AttnSet.entry_raise_other _ _ hs]
      simp [hs]
  · rw [PerPort.get_put_other _ _ _ _ hq]
    simp [hq]

/-- Settles O47: an expired record is freed with all it holds. -/
theorem leaseExpiry : Obligations.LeaseExpiry := by
  intro s h
  refine ⟨fun idle => ?_, fun r run hr lease closing idle => ?_⟩
  · show Host.Outcome.next (s.expireLease h) = _
    refine congrArg Host.Outcome.next ?_
    cases hr : s.record h with
    | none => exact State.expireLease_of_none hr
    | some r =>
      rw [State.expireLease_of_live hr, if_neg]
      rintro ⟨run, lease, closing⟩
      obtain stopped | none | ⟨q, hq, other⟩ := idle
      · exact stopped run
      · rw [hr] at none
        cases none
      · rw [hr] at hq
        cases hq
        exact other.elim (fun hl => hl lease) closing
  · have freed := State.freedWhole_retire closing idle
    obtain ⟨ports, attn, arbiter, trunk, acyclic, line⟩ := freed.kept
    refine ⟨(s.retire h r).raise r.owner (.stream h) .expired, ?_, freed.replaced.1, freed.replaced.2, freed.load,
      freed.mem, freed.free, ?_, fun m hm => ?_, ?_, fun p src hp => ?_, trunk, acyclic, line, ports, arbiter⟩
    · show Host.Outcome.next (s.expireLease h) = _
      rw [State.expireLease_of_live hr, if_pos ⟨run, lease, closing⟩]
    · exact (State.node_of_roster freed.roster _).trans (if_pos rfl)
    · exact (State.node_of_roster freed.roster _).trans (if_neg hm)
    · rw [State.entry_raise, attn, if_pos ⟨rfl, rfl⟩]
    · rw [State.entry_raise, attn, if_neg fun hc => hp.elim (· hc.1) (· hc.2), reasons_or_zero]

end Sys2Proof.Machine
end

section
/-! PROOFS. The four starts: what each scheduler turns to, its fit test and the poll it starts (R53, R58, R79 to R81, R98,
R99, R106, R107, R126, R133, R134). -/

namespace Sys2Proof.Machine

/-! ### Polls as the statements describe them (R53, R79) -/

theorem streamPollFrame_eq (r : StreamRecord) (hold : Bool) (value : List Byte) :
    streamPollFrame r.node r.channel r.direction r.seqBit r.resync hold (if hold then 0 else r.params.len) value =
      streamPoll r hold value := by
  have code : 16 * directionCode r.direction = if r.direction = .deliver then 16 else 0 := by
    cases r.direction <;> rfl
  have flags : pollFlags r.seqBit r.resync hold =
      (if r.seqBit then 1 else 0) + (if r.resync then 2 else 0) + if hold then 4 else 0 := by
    cases r.seqBit <;> cases r.resync <;> cases hold <;> rfl
  rw [streamPollFrame, streamPoll, code, flags]
  rfl

theorem State.setRecord_self {s : State} {h : Handle} {o : Option StreamRecord} (ho : s.record h = o) :
    s.setRecord h o = s := by
  rw [State.setRecord_eq_recordAt, State.recordAt_self ho]

/-- The entry of a record as its poll starts. -/
def State.attempted (s : State) (h : Handle) : State :=
  s.updEntry h fun e => { e with attempts := e.attempts + 1, disposition := .inFlight }

theorem State.startStreamPoll_eq {s : State} {h : Handle} {r : StreamRecord} (hr : s.record h = some r) :
    s.startStreamPoll h r = polled s h r := by
  have frame := streamPollFrame_eq r
  cases hd : r.direction with
  | collect =>
    rw [hd] at frame
    have poll := frame false []
    simp only [Bool.false_eq_true, if_false] at poll
    simp only [State.startStreamPoll, polled, hd, poll]
    rfl
  | deliver =>
    rw [hd] at frame
    have value := frame false
    have hold := frame true []
    simp only [Bool.false_eq_true, if_false, if_true] at value hold
    have kept : (s.attempted h).setRecord h (some r) = s.attempted h := State.setRecord_self hr
    unfold State.startStreamPoll polled
    rw [hd]
    dsimp only
    by_cases hc : r.current = some false
    · have select : r.select = .current := if_pos hc
      have same : r.selected = r := by rw [StreamRecord.selected, select]
      rw [if_pos hc, select, same, value]
      exact congrArg (fun t : State => t.startExchange _ _ _ _) kept
    · rw [if_neg hc]
      by_cases hp : r.posted = true
      · have select : r.select = .promoted := (if_neg hc).trans (if_pos hp)
        have promoted : r.selected =
            { r with current := some false, posted := false, currentHalf := r.currentHalf.other } := by
          rw [StreamRecord.selected, select]
        rw [if_pos hp, select, promoted, value]
        simp only [hd]
        rfl
      · have select : r.select = .hold := (if_neg hc).trans (if_neg hp)
        have same : r.selected = r := by rw [StreamRecord.selected, select]
        rw [if_neg hp, select, same, hold]
        exact congrArg (fun t : State => t.startExchange _ _ _ _) kept

/-! ### Entries passed over (R97) -/

theorem State.passOver_of_allActive {s : State} (hs : allActive s) : s.passOver = s := by
  have walk : ∀ l : List ServiceEntry, (∀ e, e ∈ l → e ∈ s.sched.entries) → l.foldl (fun t e =>
      if (e.disposition = .waiting ∨ e.disposition = .retryWait) ∧ s.isActive e.handle = false then t.excuse e.handle
      else t) s = s := fun l => by
    induction l with
    | nil => exact fun _ => rfl
    | cons e l ih =>
      intro sub
      have active : ¬((e.disposition = .waiting ∨ e.disposition = .retryWait) ∧ s.isActive e.handle = false) :=
        fun ⟨due, idle⟩ => by
          rw [hs e (sub e List.mem_cons_self) due] at idle
          cases idle
      rw [List.foldl_cons, if_neg active]
      exact ih fun d hd => sub d (List.mem_cons_of_mem _ hd)
  exact walk s.sched.entries fun _ => id

/-! ### First attempts (R98, R99) -/

/-- The entries of a state replaced, each keeping its handle. -/
theorem State.entriesOnce_map {s : State} {f : ServiceEntry → ServiceEntry} (keeps : ∀ e, (f e).handle = e.handle)
    (hs : s.EntriesOnce) : ((s.sched.entries.map f).map ServiceEntry.handle).Nodup := by
  rw [List.map_map, show ServiceEntry.handle ∘ f = ServiceEntry.handle from funext keeps]
  exact hs

theorem movedOn_of_retry {s : State} (hi : s.engine.state.inFlight = none) (hp : s.trunk.phase = .retry) :
    movedOn s = if s.sched.retry ≠ [] then s else acyclicBegun s := by
  rw [movedOn, if_neg (not_not.2 hi), hp]

theorem movedOn_of_unwaiting {s : State} (hi : s.engine.state.inFlight = none) (hp : s.trunk.phase = .cyclic)
    (served : ¬∃ e, e ∈ s.sched.entries ∧ e.disposition = .waiting) :
    movedOn s = if s.sched.retry ≠ [] then { s with trunk := { s.trunk with phase := .retry } } else acyclicBegun s := by
  rw [movedOn, if_neg (not_not.2 hi), hp]
  exact if_neg served

theorem State.crowdOut_advance_eq {s : State} (hs : s.EntriesOnce) (hi : s.engine.state.inFlight = none)
    (hp : s.trunk.phase = .cyclic) : s.crowdOut.advance = movedOn
      { s with sched := { s.sched with entries := s.sched.entries.map fun d =>
          if d.disposition = .waiting then { d with disposition := .unserved } else d } } := by
  have once : s.crowdOut.EntriesOnce := State.entriesOnce_map (fun e => by split <;> rfl) hs
  have served : ¬∃ e, e ∈ s.crowdOut.sched.entries ∧ e.disposition = .waiting := by
    rintro ⟨e, mem, waiting⟩
    obtain ⟨d, -, rfl⟩ := List.mem_map.1 mem
    split at waiting
    · cases waiting
    · next h => exact h waiting
  rw [State.advance_eq once, movedOn_of_retry (s := s.crowdOut) hi rfl,
    movedOn_of_unwaiting (by exact hi) (by exact hp) (by exact served)]
  rfl

theorem State.fitsGuard_iff {s : State} {slot : Nat} :
    s.fitsGuard slot = true ↔ s.trunk.clock + slot + 10 ≤ s.trunk.applied.c := decide_eq_true_iff

theorem State.fitsRetry_iff {s : State} {slot : Nat} :
    s.fitsRetry slot = true ↔ s.trunk.clock + slot ≤ 8 + (s.trunk.applied.c - 18 - s.trunk.applied.a) :=
  decide_eq_true_iff

/-- Settles O49: the turn of CYCLIC at the first WAITING entry. -/
theorem firstAttemptStarts : Obligations.FirstAttemptStarts := by
  intro s before e after r hs turn active split waiting first hr
  obtain ⟨-, phase, idle⟩ := State.turn_iff.1 turn
  have turnsTo : s.nextWaiting = some e.handle := by
    have found : s.sched.entries.find? (fun d => d.disposition == .waiting) = some e := by
      rw [split, List.find?_append, List.find?_eq_none.2 fun d hd => by simpa using first d hd,
        List.find?_cons_of_pos (by simpa using waiting)]
      rfl
    rw [State.nextWaiting, found]
    rfl
  have turned : exec .firstAttemptStart s = .next s.turnCyclic := by
    show execFirstAttemptStart s = _
    rw [execFirstAttemptStart, if_pos turn, State.passOver_of_allActive active]
  refine ⟨fun busy => ?_, fun ready fits => ?_, fun ready late => ?_⟩
  · rw [turned, State.turnCyclic, turnsTo]
    dsimp only
    rw [if_pos busy]
  · rw [turned, State.turnCyclic, turnsTo]
    dsimp only
    rw [if_neg (by simp [ready]), hr]
    dsimp only
    rw [if_pos (by exact State.fitsGuard_iff.2 fits), State.startStreamPoll_eq hr]
  · rw [turned, State.turnCyclic, turnsTo]
    dsimp only
    rw [if_neg (by simp [ready]), hr]
    dsimp only
    rw [if_neg (by exact fun fits => absurd (State.fitsGuard_iff.1 fits) (not_le.2 late)),
      State.crowdOut_advance_eq hs idle phase]

/-! ### Retries (R106, R107) -/

/-- Settles O50: the turn of RETRY at the head of the retry list. -/
theorem retryStarts : Obligations.RetryStarts := by
  intro s h tail r hs turn active list hr
  have turned : exec .retryStart s = .next s.turnRetry := by
    show execRetryStart s = _
    rw [execRetryStart, if_pos turn, State.passOver_of_allActive active]
  refine ⟨fun busy => ?_, fun ready fits => ?_, fun ready late => ?_⟩
  · rw [turned, State.turnRetry, list]
    dsimp only
    rw [if_pos busy]
  · rw [turned, State.turnRetry, list]
    dsimp only
    rw [if_neg (by simp [ready]), hr]
    dsimp only
    rw [if_pos (by exact State.fitsRetry_iff.2 fits), State.startStreamPoll_eq (by exact hr)]
  · have once : s.dropRetries.EntriesOnce := State.entriesOnce_map (fun e => by split <;> rfl) hs
    rw [turned, State.turnRetry, list]
    dsimp only
    rw [if_neg (by simp [ready]), hr]
    dsimp only
    rw [if_neg (by exact fun fits => absurd (State.fitsRetry_iff.1 fits) (not_le.2 late)),
      State.advance_eq once]
    rfl

/-! ### Probes and pieces (R126, R133, R134) -/

theorem State.toPieces_eq {s : State} (hi : s.engine.state.inFlight = none) :
    s.toPieces = movedOn { s with trunk := { s.trunk with phase := .pieces } } := by
  have phase : (s.updTrunk fun u => { u with phase := .pieces }).trunk.phase = .pieces := rfl
  unfold State.toPieces State.advance movedOn
  rw [State.engine_updTrunk, hi]
  dsimp only
  rw [State.endCyclic_of_other (by simp), State.endRetry_of_other (by simp),
    State.endProbes_of_other (by simp), State.endPieces_of_pieces phase, if_neg (by simp)]
  rfl

theorem State.pieceData_write (s : State) (id : ReqId) (q : Request) :
    s.loadBytes (areaAddrs id q.progress q.pieceCount) =
      (List.range (min 32 (q.length - q.progress))).map fun i =>
        s.store.mem.read (32 * (320 + 8 * id.val) + q.progress + i) := by
  rw [State.loadBytes, Memory.readAll, areaAddrs, List.map_map]
  rfl

theorem State.startPiece_eq (s : State) (id : ReqId) (q : Request) :
    s.startPiece id q =
      let n := min 32 (q.length - q.progress)
      let data := (List.range n).map fun i => s.store.mem.read (32 * (320 + 8 * id.val) + q.progress + i)
      startsNow
        { s with acyclic := { s.acyclic with
          requests := s.acyclic.requests.set id.val (some { q with state := .active }) id.isLt } }
        (.piece id q.kind q.progress n) q.node
        (withCrc ([byte (q.node.val + 1), 0x12, if q.kind = .read then 0 else 1] ++ be16 q.param ++
          [byte q.progress, byte n, byte (q.length - 1)] ++ if q.kind = .read then [] else data))
        (17 + n + s.trunk.applied.w) := by
  dsimp only
  rw [← State.pieceData_write]
  cases hk : q.kind with
  | read =>
    rw [State.startPiece, State.pieceData, hk]
    rfl
  | write =>
    rw [State.startPiece, State.pieceData, hk]
    rfl

/-- Settles O51: the turns of probe service and of the acyclic queue. -/
theorem acyclicStarts : Obligations.AcyclicStarts := by
  refine fun s => ⟨fun turn => ?_, fun turn => ?_⟩
  · obtain ⟨-, -, idle⟩ := State.turn_iff.1 turn
    have turned : exec .probeStart s = .next s.turnProbe := by
      show execProbeStart s = _
      rw [execProbeStart, if_pos turn]
    refine ⟨fun ended => ?_, fun n tail list run guard => ?_⟩
    · have passed : s.turnProbe = s.toPieces := by
        unfold State.turnProbe
        cases list : s.acyclic.probeList with
        | nil => rfl
        | cons n tail =>
          refine if_pos ?_
          rw [list] at ended
          exact ended.elim .inl fun h => h.elim (fun hn => nomatch hn) .inr
      rw [turned, passed, State.toPieces_eq idle]
    · rw [turned, State.turnProbe, list]
      dsimp only
      rw [if_neg (by simp [guard]; omega), ← State.toPieces_eq idle]
      refine congrArg Host.Outcome.next ?_
      simp only [State.fitsGuard_iff]
      rfl
  · obtain ⟨-, -, idle⟩ := State.turn_iff.1 turn
    have turned : exec .pieceStart s = .next s.turnPiece := by
      show execPieceStart s = _
      rw [execPieceStart, if_pos turn]
    refine ⟨fun ended => ?_, fun id tail q queue fresh guard hq => ?_⟩
    · have passed : s.turnPiece = s.endAcyclic := by
        unfold State.turnPiece AcyclicScheduler.headBlocked
        cases queue : s.acyclic.queue with
        | nil => rfl
        | cons id tail =>
          refine if_pos ?_
          obtain hn | ⟨id', tail', hcons, hd⟩ | hg := ended
          · rw [queue] at hn
            cases hn
          · rw [queue] at hcons
            cases hcons
            exact .inl (by simpa using hd)
          · exact .inr hg
      rw [turned, passed]
      rfl
    · have free : ¬(s.acyclic.headBlocked = true ∨ s.trunk.guard = true) := by
        simp [AcyclicScheduler.headBlocked, queue, fresh, guard]
      rw [turned, State.turnPiece, queue]
      dsimp only
      rw [if_neg free, hq]
      dsimp only
      rw [State.startPiece_eq]
      refine congrArg Host.Outcome.next ?_
      simp only [State.fitsGuard_iff]
      rfl

end Sys2Proof.Machine
end

section
/-! PROOFS. Reply bytes placed, an exchange abandoned, entry to FAULTED and the device reset (R42, R48, R58, R70, R72 to R74,
R84, R89, R90, R165). -/

namespace Sys2Proof.Machine

/-! ### Reply bytes in their places (R48, R58, R84) -/

/-- The addresses of the payload bytes of a reply. -/
def State.payloadAddrs (s : State) (p : Poll) : List Nat :=
  match p with
  | .collect h len _ _ => (s.record h).elim [] fun r => valueAddrs r.blocks r.publishedHalf.other len
  | .piece id .read offset n => areaAddrs id offset n
  | _ => []

theorem placeOf_eq (s : State) (p : Poll) (i : Nat) : placeOf s p i = (s.payloadAddrs p)[i]? := by
  cases p with
  | collect h len bit resync => cases hr : s.record h <;> simp [placeOf, State.payloadAddrs, hr]
  | piece id kind offset n =>
    cases kind with
    | read => exact getElem?_areaAddrs.symm
    | write => rfl
  | value | hold | probe => rfl

theorem State.payloadAddrs_nodup {s : State} (hs : s.PoolTrue) (p : Poll) : (s.payloadAddrs p).Nodup := by
  cases p with
  | collect h len bit resync =>
    cases hr : s.record h with
    | none => simp [State.payloadAddrs, hr]
    | some r => simpa [State.payloadAddrs, hr] using valueAddrs_nodup (hs.blocks_nodup hr) _ _
  | piece id kind offset n =>
    cases kind with
    | read => exact areaAddrs_nodup _ _ _
    | write => exact List.nodup_nil
  | value | hold | probe => exact List.nodup_nil

/-- The memory with a reply's payload bytes in their places. -/
def State.payloadMem (s : State) (p : Poll) (payload : List Byte) : Memory :=
  s.store.mem.writeAll (s.payloadAddrs p) payload

theorem State.placed_payloadMem (s : State) (p : Poll) (payload : List Byte) :
    placed s p payload (s.payloadMem p payload) := by
  refine ⟨Memory.writeAll_wf _ _ _, fun hm hs i v a hv ha => ?_, fun a ha => Memory.read_writeAll_unplaced fun i hi => ?_⟩
  · exact Memory.read_writeAll hm (State.payloadAddrs_nodup hs p) (placeOf_eq s p i ▸ ha) hv
  · exact placeOf_eq s p i ▸ ha i hi

theorem Memory.writeAll_none (m : Memory) (values : List Byte) : m.writeAll [] values = m := rfl

theorem State.placePayload_eq (s : State) (p : Poll) (payload : List Byte) :
    s.placePayload p payload = { s with
      store := { s.store with mem := s.payloadMem p payload }
      engine := { s.engine with identity := heldIdentity s p payload } } := by
  cases p with
  | collect h len bit resync =>
    cases hr : s.record h <;>
      simp [State.placePayload, State.payloadMem, State.payloadAddrs, heldIdentity, hr, State.storeBytes,
        Memory.writeAll_none]
  | piece id kind offset n =>
    cases kind <;> rfl
  | value | hold => rfl
  | probe =>
    simp [State.placePayload, State.payloadMem, State.payloadAddrs, heldIdentity, Memory.writeAll_none]

/-- The bytes of a reply cut off stand as they arrived. -/
theorem State.cutOff_placeArrived (s : State) : cutOff s s.placeArrived := by
  unfold cutOff State.placeArrived
  cases s.engine.state with
  | receiving x start =>
    refine ⟨_, s.placed_payloadMem x.poll _, ?_⟩
    dsimp only
    rw [State.placePayload_eq]
  | idle | polling | awaiting | quieting => rfl

/-- Settles O42: all blocks are in their reset state but what the statement names. -/
theorem deviceReset : Obligations.DeviceReset := by
  intro lowA lowB s
  exact ⟨s.placeArrived, _, s.cutOff_placeArrived, rfl, rfl, rfl, rfl, rfl, rfl, rfl, rfl⟩

/-! ### An exchange abandoned (R25, R90, R145) -/

/-- What answers a parked command when the exchange it waits for is abandoned (R142, R170). -/
def State.waitedBody (s : State) : ParkKind → List Byte
  | .close h dropped => [byte h.val, 1, if dropped then 1 else 0]
  | .cancel id => 2 :: be16 (((s.request id).map Request.progress).getD 0)

/-- The ports with the parked command answered, unless it is an orphan (R74, R162, R164). -/
def State.parkedShown (s : State) : PerPort HostPort :=
  match s.arbiter.parked with
  | none => s.ports
  | some k =>
    if k.orphan then s.ports
    else s.ports.put k.port
      { s.ports.get k.port with state := .resultReady (resultFrame k.tag .ok (s.waitedBody k.kind)) }

theorem State.parkedShown_of_none {s : State} (h : s.arbiter.parked = none) : s.parkedShown = s.ports := by
  rw [State.parkedShown, h]

theorem Arbiter.unpark_of_none {a : Arbiter} (h : a.parked = none) : { a with parked := none } = a := by
  cases a
  cases h
  rfl

/-- The parked command ended, when it waited for just this. -/
theorem unparked_of_waiting {s : State} {body : ParkKind → Option (List Byte)}
    (h : ∀ k, s.arbiter.parked = some k → body k.kind = some (s.waitedBody k.kind)) :
    (unparked s body).ports = s.parkedShown ∧ (unparked s body).arbiter = { s.arbiter with parked := none } := by
  unfold unparked State.parkedShown
  cases hp : s.arbiter.parked with
  | none => exact ⟨rfl, (Arbiter.unpark_of_none hp).symm⟩
  | some k =>
    dsimp only
    rw [h k hp]
    exact ⟨rfl, rfl⟩

/-- `u` is `s` with the exchange in flight abandoned: a CLOSING record or a CANCELLING request it served is freed and the
parked command ended. -/
structure State.Abandoned (s u : State) : Prop where
  engine : u.engine = { s.engine with state := .idle }
  records : ∀ h, u.record h = (s.record h).bind fun r =>
    if r.state = .closing ∧ s.recordInFlight h = true then none else some r
  requests : ∀ id, u.request id = (s.request id).bind fun q =>
    if q.state = .cancelling ∧ s.requestInFlight id = true then none else some q
  queue : s.QueueTrue → u.acyclic.queue = s.acyclic.queue
  probes : u.acyclic.probeList = s.acyclic.probeList ∧ u.acyclic.scanPending = s.acyclic.scanPending
  nodes : ∀ n, (u.node n).state = (s.node n).state ∧ (u.node n).identity = (s.node n).identity ∧
    (u.node n).failures = (s.node n).failures
  unclosed : (∀ h r, s.record h = some r → r.state = .closing → s.recordInFlight h = false) →
    u.table = s.table ∧ u.store = s.store ∧ u.roster = s.roster
  mem : u.store.mem = s.store.mem
  arbiter : u.arbiter = { s.arbiter with parked := none }
  ports : u.ports = s.parkedShown

theorem Option.bind_some_of_unmet {α : Type} {o : Option α} {c : α → Prop} [DecidablePred c] (h : ∀ a, o = some a → ¬c a) :
    (o.bind fun a => if c a then none else some a) = o := by
  cases o with
  | none => rfl
  | some a => exact if_neg (h a rfl)

/-- The exchange serves nothing that waits to be freed. -/
theorem State.abandoned_of_unwaited {s : State}
    (records : ∀ h r, s.record h = some r → r.state = .closing → s.recordInFlight h = false)
    (requests : ∀ id q, s.request id = some q → q.state = .cancelling → s.requestInFlight id = false)
    (hp : s.arbiter.parked = none) : s.Abandoned (s.setEngine .idle) where
  engine := rfl
  records h := (Option.bind_some_of_unmet fun r hr ⟨hc, hf⟩ => by rw [records h r hr hc] at hf; cases hf).symm
  requests id := (Option.bind_some_of_unmet fun q hq ⟨hc, hf⟩ => by rw [requests id q hq hc] at hf; cases hf).symm
  queue _ := rfl
  probes := ⟨rfl, rfl⟩
  nodes n := ⟨rfl, rfl, rfl⟩
  unclosed _ := ⟨rfl, rfl, rfl⟩
  mem := rfl
  arbiter := (Arbiter.unpark_of_none hp).symm
  ports := (State.parkedShown_of_none hp).symm

theorem State.recordInFlight_iff {s : State} {x : Exchange} (hx : s.engine.state.inFlight = some x) (h : Handle) :
    s.recordInFlight h = true ↔ x.poll.handle? = some h := by
  rw [State.recordInFlight_eq, hx]
  simp [servesRecord]

theorem State.requestInFlight_iff {s : State} {x : Exchange} (hx : s.engine.state.inFlight = some x) (id : ReqId) :
    s.requestInFlight id = true ↔ x.poll.reqId? = some id := by
  rw [State.requestInFlight_eq, hx]
  simp [servesRequest]

theorem State.requestInFlight_of_handle? {s : State} {x : Exchange} {h : Handle}
    (hx : s.engine.state.inFlight = some x) (hh : x.poll.handle? = some h) (id : ReqId) : s.requestInFlight id = false :=
  Bool.eq_false_iff.2 fun hf => by
    have serves := (State.requestInFlight_iff hx id).1 hf
    rw [Poll.reqId?_of_handle? hh] at serves
    cases serves

theorem State.recordInFlight_of_reqId? {s : State} {x : Exchange} {id : ReqId}
    (hx : s.engine.state.inFlight = some x) (hid : x.poll.reqId? = some id) (h : Handle) : s.recordInFlight h = false :=
  Bool.eq_false_iff.2 fun hf => by
    have serves := (State.recordInFlight_iff hx h).1 hf
    rw [Poll.handle?_of_reqId? hid] at serves
    cases serves

/-- The parked command waits for the record the exchange serves. -/
theorem State.ParkedSound.close {s : State} {x : Exchange} {h : Handle} (hs : s.ParkedSound)
    (hx : s.engine.state.inFlight = some x) (hh : x.poll.handle? = some h) {k : Parked} (hk : s.arbiter.parked = some k) :
    ∃ dropped, k.kind = .close h dropped := by
  have awaits := State.parkedSound_iff.1 hs k hk
  cases hkind : k.kind with
  | close h' dropped =>
    rw [hkind] at awaits
    have serves := awaits.1
    rw [← State.recordInFlight_eq, State.recordInFlight_iff hx, hh, Option.some.injEq] at serves
    exact ⟨dropped, by rw [serves]⟩
  | cancel id =>
    rw [hkind] at awaits
    have serves := awaits.1
    rw [← State.requestInFlight_eq, State.requestInFlight_of_handle? hx hh] at serves
    cases serves

/-- The parked command waits for the request whose piece the exchange is. -/
theorem State.ParkedSound.cancel {s : State} {x : Exchange} {id : ReqId} (hs : s.ParkedSound)
    (hx : s.engine.state.inFlight = some x) (hid : x.poll.reqId? = some id) {k : Parked} (hk : s.arbiter.parked = some k) :
    k.kind = .cancel id := by
  have awaits := State.parkedSound_iff.1 hs k hk
  cases hkind : k.kind with
  | close h dropped =>
    rw [hkind] at awaits
    have serves := awaits.1
    rw [← State.recordInFlight_eq, State.recordInFlight_of_reqId? hx hid] at serves
    cases serves
  | cancel id' =>
    rw [hkind] at awaits
    have serves := awaits.1
    rw [← State.requestInFlight_eq, State.requestInFlight_iff hx, hid, Option.some.injEq] at serves
    rw [serves]

/-- The exchange serves a CLOSING record. -/
theorem State.abandoned_endClosing {s : State} {x : Exchange} {h : Handle} {r : StreamRecord} (hs : s.ParkedSound)
    (hx : s.engine.state.inFlight = some x) (hh : x.poll.handle? = some h) (hr : s.record h = some r)
    (hc : r.state = .closing) : s.Abandoned ((s.setEngine .idle).endClosing h r) := by
  have serves (k : Handle) : s.recordInFlight k = true ↔ k = h := by
    rw [State.recordInFlight_iff hx, hh, Option.some.injEq, eq_comm]
  have answered := unparked_of_waiting (s := s.setEngine .idle) (body := closeAnswer h) fun k hk => by
    obtain ⟨dropped, kind⟩ := hs.close hx hh hk
    rw [kind]
    exact if_pos rfl
  obtain ⟨state, -, -⟩ := (s.setEngine .idle).closedAtEnd_endClosing h r
  have record (k : Handle) : ((s.setEngine .idle).endClosing h r).record k = if k = h then none else s.record k :=
    State.record_endClosing _ _ _ _
  generalize (s.setEngine .idle).endClosing h r = u at state record
  exact {
    engine := by rw [state]; simp
    records := fun k => by
      rw [record]
      by_cases hk : k = h
      · subst hk
        rw [if_pos rfl, hr, Option.bind_some, if_pos ⟨hc, (serves k).2 rfl⟩]
      · rw [if_neg hk, Option.bind_some_of_unmet fun q _ ⟨_, hf⟩ => hk ((serves k).1 hf)]
    requests := fun id => by
      have acyclic : u.acyclic = s.acyclic := by rw [state]; simp
      rw [State.request, acyclic]
      refine (Option.bind_some_of_unmet fun q _ ⟨_, hf⟩ => ?_).symm
      rw [State.requestInFlight_of_handle? hx hh] at hf
      cases hf
    queue := fun _ => by rw [state]; simp
    probes := by rw [state]; simp
    nodes := fun n => by
      rw [State.node_of_roster (s := s) (n := r.node) (congrArg State.roster state)]
      split
      · next e => subst e; exact ⟨rfl, rfl, rfl⟩
      · exact ⟨rfl, rfl, rfl⟩
    unclosed := fun none_closing => by
      have idle := none_closing h r hr hc
      rw [(serves h).2 rfl] at idle
      cases idle
    mem := by rw [state]; rfl
    arbiter := by rw [state]; exact answered.2
    ports := by rw [state]; exact answered.1 }

/-- The exchange is a piece of a CANCELLING request. -/
theorem State.abandoned_endCancelling {s : State} {x : Exchange} {id : ReqId} {q : Request} (hs : s.ParkedSound)
    (hx : s.engine.state.inFlight = some x) (hid : x.poll.reqId? = some id) (hq : s.request id = some q)
    (hc : q.state = .cancelling) : s.Abandoned ((s.setEngine .idle).endCancelling id q) := by
  have serves (k : ReqId) : s.requestInFlight k = true ↔ k = id := by
    rw [State.requestInFlight_iff hx, hid, Option.some.injEq, eq_comm]
  have answered := unparked_of_waiting (s := s.setEngine .idle) (body := cancelAnswer id q) fun k hk => by
    rw [hs.cancel hx hid hk]
    have progress : ((s.setEngine .idle).request id).map Request.progress = some q.progress :=
      congrArg (Option.map Request.progress) hq
    rw [State.waitedBody, progress]
    exact if_pos rfl
  have state := (s.setEngine .idle).endCancelling_eq id q
  have request (k : ReqId) : ((s.setEngine .idle).endCancelling id q).request k = if k = id then none else s.request k := by
    rw [state]
    simp only [cancelledAtEnd, outOfQueue, State.request, Vector.getElem_set, Fin.ext_iff, eq_comm]
    rfl
  generalize (s.setEngine .idle).endCancelling id q = u at state request
  exact {
    engine := by rw [state]; simp [cancelledAtEnd]
    records := fun k => by
      have table : u.table = s.table := by rw [state]; simp [cancelledAtEnd]
      rw [State.record, table]
      refine (Option.bind_some_of_unmet fun q _ ⟨_, hf⟩ => ?_).symm
      rw [State.recordInFlight_of_reqId? hx hid] at hf
      cases hf
    requests := fun k => by
      rw [request]
      by_cases hk : k = id
      · subst hk
        rw [if_pos rfl, hq, Option.bind_some, if_pos ⟨hc, (serves k).2 rfl⟩]
      · rw [if_neg hk, Option.bind_some_of_unmet fun q _ ⟨_, hf⟩ => hk ((serves k).1 hf)]
    queue := fun ht => by
      have out : id ∉ (s.setEngine .idle).acyclic.queue := ht.not_mem hq (by simp [hc])
      rw [state, cancelledAtEnd, outOfQueue_of_not_mem _ out]
      rfl
    probes := by rw [state]; exact ⟨rfl, rfl⟩
    nodes := fun n => by rw [State.node, state]; simp [cancelledAtEnd, State.node]
    unclosed := fun _ => by rw [state]; simp [cancelledAtEnd]
    mem := by rw [state]; simp [cancelledAtEnd]
    arbiter := by rw [state]; exact answered.2
    ports := by rw [state]; exact answered.1 }

theorem State.abandoned_abandon {s : State} (hs : s.ParkedSound) : s.Abandoned s.abandon := by
  have parked := State.parkedSound_iff.1 hs
  unfold State.abandon
  dsimp only
  cases hx : s.engine.state.inFlight with
  | none =>
    rw [hx] at parked
    refine State.abandoned_of_unwaited (fun h r _ _ => ?_) (fun id q _ _ => ?_) ?_
    · rw [State.recordInFlight_eq, hx]
      rfl
    · rw [State.requestInFlight_eq, hx]
      rfl
    · exact parked.none_of_unserving (fun _ => rfl) fun _ => rfl
  | some x =>
    rw [hx] at parked
    dsimp only
    cases hh : x.poll.handle? with
    | some h =>
      have only (k : Handle) (hk : k ≠ h) : s.recordInFlight k = false := Bool.eq_false_iff.2 fun hf => by
        rw [State.recordInFlight_iff hx, hh, Option.some.injEq] at hf
        exact hk hf.symm
      have unwaited (hc : ¬s.Closing h) : s.Abandoned (s.setEngine .idle) :=
        State.abandoned_of_unwaited
          (fun k r hr hclosing => only k fun e => hc (e ▸ ⟨r, hr, hclosing⟩))
          (fun id _ _ _ => State.requestInFlight_of_handle? hx hh id) (parked.none_of_not_closing hh hc)
      dsimp only
      cases hr : s.record h with
      | none => exact unwaited fun ⟨r, hr', _⟩ => absurd (hr.symm.trans hr') nofun
      | some r =>
        dsimp only
        split
        · next hc => exact State.abandoned_endClosing hs hx hh hr hc
        · next hc => exact unwaited fun h => hc ((State.closing_iff_of_record hr).1 h)
    | none =>
      have unserved (k : Handle) : s.recordInFlight k = false := Bool.eq_false_iff.2 fun hf => by
        rw [State.recordInFlight_iff hx, hh] at hf
        cases hf
      cases hid : x.poll.reqId? with
      | none =>
        refine State.abandoned_of_unwaited (fun k _ _ _ => unserved k) (fun id _ _ _ => ?_)
          (parked.none_of_unserving (fun k => by simp [servesRecord, hh]) fun id => by simp [servesRequest, hid])
        refine Bool.eq_false_iff.2 fun hf => ?_
        rw [State.requestInFlight_iff hx, hid] at hf
        cases hf
      | some id =>
        have only (k : ReqId) (hk : k ≠ id) : s.requestInFlight k = false := Bool.eq_false_iff.2 fun hf => by
          rw [State.requestInFlight_iff hx, hid, Option.some.injEq] at hf
          exact hk hf.symm
        have unwaited (hc : ¬s.Cancelling id) : s.Abandoned (s.setEngine .idle) :=
          State.abandoned_of_unwaited (fun k _ _ _ => unserved k)
            (fun k q hq hcan => only k fun e => hc (e ▸ ⟨q, hq, hcan⟩)) (parked.none_of_not_cancelling hid hc)
        dsimp only
        cases hq : s.request id with
        | none => exact unwaited fun ⟨q, hq', _⟩ => absurd (hq.symm.trans hq') nofun
        | some q =>
          dsimp only
          split
          · next hc => exact State.abandoned_endCancelling hs hx hid hq hc
          · next hc => exact unwaited fun h => hc ((State.cancelling_iff_of_request hq).1 h)

end Sys2Proof.Machine
end

section
/-! PROOFS. Entry to FAULTED (R70, R72 to R74, R89, R90). -/

namespace Sys2Proof.Machine

theorem afterStaging_abandon (s : State) : afterStaging s.abandon.trunk = afterStaging s.trunk := by simp

theorem raisedAfterStaged_abandon (s : State) (r : Option Reason) :
    raisedAfterStaged s.abandon r = raisedAfterStaged s r := by
  simp [raisedAfterStaged]

theorem State.parkedShown_eq (s : State) :
    s.parkedShown =
      match s.arbiter.parked with
      | none => s.ports
      | some k =>
        if k.orphan then s.ports
        else
          s.ports.put k.port { s.ports.get k.port with
            state := .resultReady (resultFrame k.tag .ok
              (match k.kind with
               | .close h dropped => [byte h.val, 1, if dropped then 1 else 0]
               | .cancel id => 2 :: be16 (((s.request id).map Request.progress).getD 0))) } := by
  unfold State.parkedShown
  cases s.arbiter.parked with
  | none => rfl
  | some k => cases hk : k.kind <;> simp only [hk] <;> rfl

theorem State.faultEntered_enterFaulted {s : State} (hs : s.ParkedSound) (cause : FaultCause) :
    faultEntered s cause (s.enterFaulted cause) := by
  have left := State.abandoned_abandon hs
  have trunk := afterStaging_abandon s
  have attn := raisedAfterStaged_abandon s (some .trunkFault)
  have pins : s.abandon.pins = s.pins := by simp
  have freeIndex : s.abandon.freeIndex = s.freeIndex := by simp
  have pending : s.abandon.pending = s.pending := by simp
  have ports := left.ports.trans s.parkedShown_eq
  rw [State.enterFaulted_eq, trunk, attn, pins]
  generalize s.abandon = u at left ports freeIndex pending
  exact ⟨rfl, rfl, left.engine, rfl, rfl, left.records, left.requests, left.queue, left.probes.1, left.probes.2,
    left.nodes, left.unclosed, left.mem, left.arbiter, freeIndex, pending, ports⟩

theorem State.ParkedSound.placeArrived {s : State} (hs : s.ParkedSound) : s.placeArrived.ParkedSound := by
  obtain ⟨x, start, hx, arrived⟩ | ⟨-, arrived⟩ := s.placeArrived_cases
  · rw [arrived, State.placePayload_eq]
    exact hs
  · rwa [arrived]

/-- Settles O43: each of the five events enters FAULTED. -/
theorem trunkFaults : Obligations.TrunkFaults := by
  intro s hs
  have faulted := State.faultEntered_enterFaulted hs.parked .lineJammed
  refine ⟨fun stopped => ?_, fun runs => ?_, fun busy => ⟨fun due => ?_, fun syncing marks due => ?_, fun draining due => ?_⟩,
    fun slotEnd quieting cycle bound => ?_⟩
  · show execLfaultAsserted s = _
    rw [execLfaultAsserted, if_pos stopped]
  · refine ⟨_, _, State.cutOff_placeArrived _, ?_, State.faultEntered_enterFaulted ?_ .lfaultAsserted⟩
    · show execLfaultAsserted s = _
      rw [execLfaultAsserted, if_neg (by simp [runs])]
    · exact State.ParkedSound.placeArrived (by exact hs.parked)
  · refine ⟨_, ?_, faulted⟩
    show execCycleMarkDue s = _
    rw [execCycleMarkDue, if_neg (by simp [due]), if_pos busy]
  · refine ⟨_, ?_, faulted⟩
    show execRestartMarkDue s = _
    rw [execRestartMarkDue, if_pos ⟨syncing, marks, due⟩, State.restartMarkFallsDue, if_pos busy]
  · refine ⟨_, ?_, faulted⟩
    show execDrainEnd s = _
    rw [execDrainEnd, if_pos ⟨draining, due⟩, if_pos busy]
  · refine ⟨_, ?_, faulted⟩
    show execQuietingBound s = _
    simp only [execQuietingBound, quieting, cycle, bound, and_self, if_true]

end Sys2Proof.Machine
end

section
/-! PROOFS. The host ports' transactions: the status byte, what SDO shows and SDI brings, RESULT and COMMAND transactions
(R150, R154 to R159, R163 to R166). -/

namespace Sys2Proof.Machine

/-! ### SDI and the status byte (R154, R155) -/

theorem toNat_bit (b : Byte) (i : Nat) : (b.getLsbD i).toNat = b.toNat / 2 ^ i % 2 := Nat.toNat_testBit _ _

theorem sum_of_bits {x : Nat} (hx : x < 256) :
    128 * (x / 128 % 2) + 64 * (x / 64 % 2) + 32 * (x / 32 % 2) + 16 * (x / 16 % 2) + 8 * (x / 8 % 2) +
      4 * (x / 4 % 2) + 2 * (x / 2 % 2) + x % 2 = x := by
  omega

theorem byte_of_bits (b : Byte) :
    byte (128 * (b.getLsbD 7).toNat + 64 * (b.getLsbD 6).toNat + 32 * (b.getLsbD 5).toNat + 16 * (b.getLsbD 4).toNat +
      8 * (b.getLsbD 3).toNat + 4 * (b.getLsbD 2).toNat + 2 * (b.getLsbD 1).toNat + (b.getLsbD 0).toNat) = b := by
  simp only [toNat_bit, Nat.reducePow, Nat.div_one]
  rw [sum_of_bits b.isLt]
  exact BitVec.ofNat_toNat 8 b |>.trans (BitVec.setWidth_eq b)

/-- SDI brings the bytes whose bits it shows; a part of a byte after them brings nothing. -/
theorem sampledBytes_bits (bytes : List Byte) {part : List Bool} (hp : part.length < 8) :
    sampledBytes ((bytes.flatMap fun b => (List.range 8).map fun i => b.getLsbD (7 - i)) ++ part) = bytes := by
  induction bytes with
  | nil =>
    refine List.eq_nil_of_length_eq_zero ?_
    rw [length_sampledBytes]
    exact Nat.div_eq_of_lt hp
  | cons b bytes ih => exact congrArg₂ List.cons (byte_of_bits b) ih

/-- The bits of a status byte (Table 12-5). -/
theorem statusBits (code : Fin 3) (attn dropped lost error : Bool) :
    let status : Byte := byte (128 + 16 * code.val + 8 * attn.toNat + 4 * dropped.toNat + 2 * lost.toNat + error.toNat)
    status.getLsbD 7 = true ∧ status.getLsbD 6 = false ∧ status.getLsbD 5 = decide (code = 2) ∧
    status.getLsbD 4 = decide (code = 1) ∧ status.getLsbD 3 = attn ∧ status.getLsbD 2 = dropped ∧
    status.getLsbD 1 = lost ∧ status.getLsbD 0 = error := by
  revert code attn dropped lost error
  decide

theorem State.attnPart_iff {s : State} {p : Port} : s.attnPart p = true ↔ attentionPart s p := by
  simp only [State.attnPart, attentionPart, List.any_eq_true, bne_iff_ne, Vector.mem_toList_iff, Vector.mem_iff_getElem]
  constructor
  · rintro ⟨e, ⟨i, hi, rfl⟩, enabled⟩
    exact ⟨⟨i, hi⟩, enabled⟩
  · rintro ⟨i, enabled⟩
    exact ⟨_, ⟨i.val, i.isLt, rfl⟩, enabled⟩

theorem PortState.code_lt (h : PortState) : h.code < 3 := by cases h <;> simp [PortState.code]

theorem State.shiftsOut_active {s : State} {p : Port} {status : Byte} {r : Option (Bool × List Byte)} (k : Nat)
    (h : (s.ports.get p).txn = .active status r) : shiftsOut s p k (shiftedByte status r k) :=
  fun n hn => State.sdo_active s p k n status r h hn

theorem txn_withPort (s : State) (p : Port) (h : HostPort) : ((withPort s p h).ports.get p).txn = h.txn := by
  simp [withPort]

/-- Settles O38: the status byte's bits are those of the port, and SDO shifts it out before fill bytes. -/
theorem selFalls : Obligations.SelFalls := by
  refine ⟨fun p s high => ⟨fun n => State.sdo_high s p n high, s.statusByte p, ?_⟩, fun bytes part hp =>
    sampledBytes_bits bytes hp⟩
  have active := txn_withPort s p { s.ports.get p with txn := .active (s.statusByte p) none }
  obtain ⟨b7, b6, b5, b4, b3, b2, b1, b0⟩ := statusBits ⟨(s.ports.get p).state.code, PortState.code_lt _⟩
    (s.attnPart p) (s.ports.get p).dropped (s.ports.get p).lost (s.ports.get p).frameError
  refine ⟨?_, State.shiftsOut_active 0 active, fun k => State.shiftsOut_active (k + 1) active, b7, b6, ?_, ?_, ?_, b2, b1,
    b0, ?_⟩
  · show execSelFalls p s = _
    rw [execSelFalls, high]
    rfl
  · rw [show (s.statusByte p).getLsbD 5 = _ from b5, decide_eq_true_iff]
    cases (s.ports.get p).state <;> simp [PortState.code]
  · rw [show (s.statusByte p).getLsbD 4 = _ from b4, decide_eq_true_iff]
    cases (s.ports.get p).state <;> simp [PortState.code]
  · rw [show (s.statusByte p).getLsbD 3 = _ from b3]
    exact State.attnPart_iff
  · rw [State.attnLine, Bool.or_eq_true, State.attnPart_iff]
    refine or_congr_right ?_
    cases hs : (s.ports.get p).state <;> simp [HostPort.ready, hs]

/-! ### RESULT transactions (R159) -/

theorem ports_withPort_same (s : State) (p : Port) (h : HostPort) : (withPort s p h).ports.get p = h := by
  simp [withPort]

theorem State.updPort_withPort (s : State) (p : Port) (h : HostPort) (f : HostPort → HostPort) :
    (withPort s p h).updPort p f = withPort s p (f h) := by
  cases p <;> rfl

/-- SEL rises on a RESULT transaction that shows a response. -/
theorem execResultTransaction_shown {s : State} {p : Port} {h : HostPort} {status : Byte} {held : Bool}
    {frame : List Byte} (hx : h.txn = .active status (some (held, frame))) (n : Nat) :
    exec (.resultTransaction p n) (withPort s p h) = .next
      (if held = true ∧ frame.length ≤ n then
        withPort s p { h with state := .idle, dropped := false, lost := false, frameError := false, txn := .high }
      else withPort s p { h with txn := .high }) := by
  show execResultTransaction p n (withPort s p h) = _
  rw [execResultTransaction, ports_withPort_same, hx]
  dsimp only
  rw [apply_ite Host.Outcome.next, State.resultTaken, State.selRises, State.updPort_withPort, State.updPort_withPort]

theorem HostPort.response_of_ready {h : HostPort} {f : List Byte} (hs : h.state = .resultReady f) :
    h.response = (true, f) := by
  rw [HostPort.response, hs]

theorem HostPort.response_of_empty {h : HostPort} (hs : h.state = .idle ∨ h.state = .working) :
    h.response = (false, withCrc [0, 1, 0, 0]) := by
  obtain hs | hs := hs <;> rw [HostPort.response, hs] <;> rfl

/-- Settles O39: the response is fixed at the kind byte; only a held one clocked out whole is taken. -/
theorem resultTransaction : Obligations.ResultTransaction := by
  intro p s status active
  have whole : exec (.kindByteWhole p) s =
      .next (withPort s p { s.ports.get p with txn := .active status (some (s.ports.get p).response) }) := by
    show execKindByteWhole p s = _
    rw [execKindByteWhole, active]
    rfl
  refine ⟨fun f hf => ⟨?_, fun n => ?_⟩, fun idle => ?_, fun n => ?_, fun held frame => ?_⟩
  · rw [whole, HostPort.response_of_ready hf]
  · refine (execResultTransaction_shown (status := status) (held := true) (frame := f) (by rfl) n).trans ?_
    simp
  · rw [whole, HostPort.response_of_empty idle]
  · exact execResultTransaction_shown (status := status) (held := false) (by rfl) n
  · have shown := txn_withPort s p { s.ports.get p with txn := .active status (some (held, frame)) }
    refine ⟨State.shiftsOut_active 0 shown, fun i b hb => ?_, fun i hi => ?_⟩
    · have out := State.shiftsOut_active (i + 1) shown
      rwa [shiftedByte_some, hb] at out
    · have out := State.shiftsOut_active (i + 1) shown
      rwa [shiftedByte_some, List.getElem?_eq_none hi] at out

/-! ### COMMAND transactions (R154, R156, R157) -/

theorem length_crcBytes (bytes : List Byte) : (crcBytes bytes).length = 2 := rfl

theorem crcGood_withCrc (bytes : List Byte) : crcGood (withCrc bytes) = true := by
  have body : (bytes ++ crcBytes bytes).length - 2 = bytes.length := by simp [length_crcBytes]
  rw [crcGood, withCrc, body, List.take_left, List.drop_left]
  simp [length_crcBytes]

theorem eq_withCrc_of_crcGood {frame : List Byte} (h : crcGood frame = true) :
    frame = withCrc (frame.take (frame.length - 2)) := by
  rw [crcGood, Bool.and_eq_true, beq_iff_eq] at h
  rw [withCrc, ← h.2, List.take_append_drop]

theorem readCommandFrame_of_carries {sent : List Byte} {code tag : Byte} {body : List Byte}
    (h : carries sent code tag body) (p : Port) : readCommandFrame p sent = some ⟨p, code, tag, body⟩ := by
  obtain ⟨hi, lo, extra, len, bound, rfl⟩ := h
  have bytes : withCrc (code :: tag :: hi :: lo :: body) ++ extra =
      code :: tag :: hi :: lo :: (body ++ (crcBytes (code :: tag :: hi :: lo :: body) ++ extra)) := by
    simp [withCrc]
  have frame : (withCrc (code :: tag :: hi :: lo :: body) ++ extra).take (6 + body.length) =
      withCrc (code :: tag :: hi :: lo :: body) :=
    List.take_left' (by rw [length_withCrc]; simp only [List.length_cons]; omega)
  rw [bytes] at frame ⊢
  rw [readCommandFrame, len, frame, if_pos ⟨bound, by simp [length_crcBytes], crcGood_withCrc _⟩, List.take_left]

theorem carries_of_readCommandFrame {sent : List Byte} {p : Port} {c : Command}
    (h : readCommandFrame p sent = some c) : carries sent c.code c.tag c.body := by
  match sent with
  | code :: tag :: hi :: lo :: rest =>
    rw [readCommandFrame] at h
    split at h
    · next good =>
      obtain ⟨bound, room, crc⟩ := good
      cases h
      have len : (rest.take (word16 hi lo)).length = word16 hi lo := by rw [List.length_take]; omega
      have size : ((code :: tag :: hi :: lo :: rest).take (6 + word16 hi lo)).length = 6 + word16 hi lo := by
        rw [List.length_take]
        simp only [List.length_cons]
        omega
      have frame := eq_withCrc_of_crcGood crc
      rw [size, List.take_take, show 6 + word16 hi lo - 2 = word16 hi lo + 1 + 1 + 1 + 1 by omega,
        min_eq_left (by omega)] at frame
      simp only [List.take_succ_cons] at frame
      refine ⟨hi, lo, (code :: tag :: hi :: lo :: rest).drop (6 + word16 hi lo), len.symm, ?_, ?_⟩
      · rw [len]
        exact bound
      · rw [← frame]
        exact (List.take_append_drop _ _).symm
    · cases h
  | [] | [_] | [_, _] | [_, _, _] => cases h

theorem readCommandFrame_of_none {sent : List Byte} (p : Port) (h : ∀ code tag body, ¬carries sent code tag body) :
    readCommandFrame p sent = none :=
  Option.eq_none_iff_forall_ne_some.2 fun _ hc => h _ _ _ (carries_of_readCommandFrame hc)

theorem not_confirmed {sent : List Byte} (h : ∀ extra, sent ≠ 0xC3 :: 0x69 :: extra) : confirmed sent = false := by
  match sent with
  | [] => rfl
  | [_] => simp [confirmed]
  | a :: b :: extra =>
    refine Bool.eq_false_iff.2 fun hc => ?_
    simp only [confirmed, List.take_succ_cons, List.take_zero, beq_iff_eq, List.cons.injEq, and_true] at hc
    obtain ⟨rfl, rfl⟩ := hc
    exact h extra rfl

theorem notTaken_of {p : Port} {sent : List Byte} (h : sent = [] ∨ (∃ k rest, sent = k :: rest ∧
    (k ≠ 0x5A ∧ k ≠ 0xA5 ∧ k ≠ 0x3C ∨
     k = 0x5A ∧ (∀ code tag body, ¬carries rest code tag body) ∨
     k = 0x3C ∧ ∀ extra, rest ≠ 0xC3 :: 0x69 :: extra))) : notTaken p sent = true := by
  obtain rfl | ⟨k, rest, rfl, ⟨command, result, reset⟩ | ⟨rfl, bad⟩ | ⟨rfl, bad⟩⟩ := h
  · rfl
  · rw [notTaken, if_neg (by exact command), if_neg (by exact reset)]
    exact bne_iff_ne.2 result
  · rw [notTaken, if_pos (by rfl), readCommandFrame_of_none p bad]
    rfl
  · rw [notTaken, if_neg (by decide), if_pos (by rfl), not_confirmed bad]
    rfl

theorem State.judgeFrame_of_idle {s : State} {p : Port} {c : Command} (hs : (s.ports.get p).state = .idle) :
    s.judgeFrame p c =
      ({ s with arbiter := { s.arbiter with waiting := s.arbiter.waiting ++ [c] } }).updPort p fun h =>
        { h with state := .working, txn := .high } := by
  rw [State.judgeFrame, hs]

theorem State.judgeFrame_of_ready {s : State} {p : Port} {c : Command} {f : List Byte}
    (hs : (s.ports.get p).state = .resultReady f) :
    s.judgeFrame p c =
      ({ s with arbiter := { s.arbiter with waiting := s.arbiter.waiting ++ [c] } }).updPort p fun h =>
        { h with state := .working, lost := true, txn := .high } := by
  rw [State.judgeFrame, hs]

theorem State.judgeFrame_of_working {s : State} {p : Port} {c : Command} (hs : (s.ports.get p).state = .working) :
    s.judgeFrame p c = s.updPort p fun h => { h with dropped := true, txn := .high } := by
  rw [State.judgeFrame, hs]

/-- Settles O40: a frame is judged by the port's state; what is not a good frame sets FRAME_ERROR. -/
theorem commandTransaction : Obligations.CommandTransaction := by
  refine ⟨fun p s sent status active => ⟨fun code tag body frame => ?_, fun bad => ?_, fun bad => ?_, fun bad => ?_⟩,
    fun p s sent n discarded => ⟨?_, ?_, ?_, ?_, ?_⟩⟩
  · have taken : exec (.commandTransaction p sent) s = .next (s.judgeFrame p ⟨p, code, tag, body⟩) := by
      show execCommandTransaction p sent s = _
      rw [execCommandTransaction, active]
      dsimp only
      rw [readCommandFrame_of_carries frame]
    exact ⟨fun hs => by rw [taken, State.judgeFrame_of_idle hs]; rfl,
      fun f hs => by rw [taken, State.judgeFrame_of_ready hs]; rfl,
      fun hs => by rw [taken, State.judgeFrame_of_working hs]; rfl⟩
  · show execCommandTransaction p sent s = _
    rw [execCommandTransaction, active]
    dsimp only
    rw [readCommandFrame_of_none p bad]
    rfl
  · show execTransactionNotTaken p sent s = _
    rw [execTransactionNotTaken, active]
    exact if_pos (notTaken_of bad)
  · show execPortReset p sent s = _
    rw [execPortReset, active]
    dsimp only
    rw [not_confirmed bad]
    rfl
  · show execKindByteWhole p s = _
    rw [execKindByteWhole, discarded]
  · show execCommandTransaction p sent s = _
    rw [execCommandTransaction, discarded]
    rfl
  · show execResultTransaction p n s = _
    rw [execResultTransaction, discarded]
    rfl
  · show execPortReset p sent s = _
    rw [execPortReset, discarded]
    rfl
  · show execTransactionNotTaken p sent s = _
    rw [execTransactionNotTaken, discarded]
    rfl

end Sys2Proof.Machine
end

section
/-! PROOFS. The judgement of replies by the tests of Table 5-3 (R83, R85, R86, R184). -/

namespace Sys2Proof.Machine

/-! ### The frame of a reply -/

/-- A reply's frame: the node address, the reply kind, the code, a piece's offset, the declared length, the payload. -/
def replyBytes (a k code : Byte) (e payload : List Byte) : List Byte :=
  withCrc ([a, k, code] ++ e ++ [byte payload.length] ++ payload)

theorem replyHeaderLength_eq (p : Poll) : replyHeaderLength p = 4 + (ownEcho p).length := by cases p <;> rfl

theorem acceptPayload_eq (p : Poll) : acceptPayload p = ownAcceptLength p := by
  cases p with
  | piece id kind offset n => cases kind <;> rfl
  | collect | value | hold | probe => rfl

theorem replyKind_eq (p : Poll) : replyKind p = ownReplyKind p := by cases p <;> rfl

theorem replyBytes_eq (a k code : Byte) (e payload : List Byte) :
    replyBytes a k code e payload = a :: k :: code :: (e ++ byte payload.length ::
      (payload ++ crcBytes ([a, k, code] ++ e ++ [byte payload.length] ++ payload))) := by
  simp [replyBytes, withCrc]

theorem length_replyBytes (a k code : Byte) (e payload : List Byte) :
    (replyBytes a k code e payload).length = 4 + e.length + payload.length + 2 := by
  rw [replyBytes, length_withCrc]
  simp
  omega

theorem getElem?_replyBytes_length (a k code : Byte) (e payload : List Byte) :
    (replyBytes a k code e payload)[3 + e.length]? = some (byte payload.length) := by
  rw [replyBytes_eq, Nat.add_comm]
  simp

theorem toNat_byte {n : Nat} (h : n ≤ 255) : (byte n).toNat = n := by
  rw [byte, BitVec.toNat_ofNat]
  omega

/-- Bytes that agree with a reply's frame up to its CRC declare its length. -/
theorem declaredLength_of_take {p : Poll} {a k code : Byte} {e payload bytes : List Byte}
    (he : e.length = (ownEcho p).length) (hp : payload.length ≤ 255) {n : Nat} (hn : 4 + e.length ≤ n)
    (agree : bytes.take n = (replyBytes a k code e payload).take n) :
    declaredLength p bytes = some payload.length := by
  have place : bytes[3 + e.length]? = some (byte payload.length) := by
    have same := congrArg (fun l => l[3 + e.length]?) agree
    simpa only [List.getElem?_take_of_lt (show 3 + e.length < n by omega), getElem?_replyBytes_length] using same
  rw [declaredLength, replyHeaderLength_eq, show 4 + (ownEcho p).length - 1 = 3 + e.length by omega, place,
    Option.map_some, toNat_byte hp]

theorem replyLength_of_take {p : Poll} {a k code : Byte} {e payload bytes : List Byte}
    (he : e.length = (ownEcho p).length) (hp : payload.length ≤ 255) {n : Nat} (hn : 4 + e.length ≤ n)
    (agree : bytes.take n = (replyBytes a k code e payload).take n) :
    replyLength p bytes = some (replyBytes a k code e payload).length := by
  rw [replyLength, declaredLength_of_take he hp hn agree, Option.map_some, replyHeaderLength_eq, length_replyBytes, he]

section
variable {p : Poll} {a k code : Byte} {e payload : List Byte}

theorem declaredLength_replyBytes (he : e.length = (ownEcho p).length) (hp : payload.length ≤ 255) :
    declaredLength p (replyBytes a k code e payload) = some payload.length :=
  declaredLength_of_take he hp le_rfl rfl

theorem replyLength_replyBytes (he : e.length = (ownEcho p).length) (hp : payload.length ≤ 255) :
    replyLength p (replyBytes a k code e payload) = some (replyBytes a k code e payload).length :=
  replyLength_of_take he hp le_rfl rfl

theorem replyComplete_replyBytes (he : e.length = (ownEcho p).length) (hp : payload.length ≤ 255) :
    replyComplete p (replyBytes a k code e payload) = true := by
  rw [replyComplete, replyLength_replyBytes he hp]
  exact decide_eq_true le_rfl

theorem replyFrame_replyBytes (he : e.length = (ownEcho p).length) (hp : payload.length ≤ 255) :
    replyFrame p (replyBytes a k code e payload) = replyBytes a k code e payload := by
  rw [replyFrame, replyLength_replyBytes he hp]
  exact List.take_length

theorem replyPayload_replyBytes (he : e.length = (ownEcho p).length) (hp : payload.length ≤ 255) :
    replyPayload p (replyBytes a k code e payload) = payload := by
  rw [replyPayload, declaredLength_replyBytes he hp, replyHeaderLength_eq, ← he, replyBytes_eq]
  dsimp only
  rw [show 4 + e.length = e.length + 1 + 1 + 1 + 1 by omega]
  simp

theorem replyCode_replyBytes : replyCode (replyBytes a k code e payload) = code.toNat % 128 := by
  rw [replyBytes_eq]
  rfl

theorem replyBit_replyBytes : replyBit (replyBytes a k code e payload) = code.msb := by
  rw [replyBytes_eq]
  rfl

end

/-- A whole reply with a good CRC goes on to the header's test. -/
theorem judgeReply_replyBytes {x : Exchange} {a k code : Byte} {e payload : List Byte}
    (he : e.length = (ownEcho x.poll).length) (hp : payload.length ≤ 255) :
    judgeReply x (replyBytes a k code e payload) =
      if headerAnswers x (replyBytes a k code e payload) = false then .crcError
      else if payload.length ≠ expectedPayload x.poll (code.toNat % 128) then .badLength
      else if code.toNat % 128 = 2 then .deferred
      else if code.toNat % 128 = 3 then .refused
      else judgeContent x.poll (replyBytes a k code e payload) := by
  have good : crcGood (replyBytes a k code e payload) = true := crcGood_withCrc _
  rw [judgeReply, replyFrame_replyBytes he hp, replyComplete_replyBytes he hp, good, declaredLength_replyBytes he hp,
    replyCode_replyBytes]
  simp

/-- The header answers exactly when each of its fields is the one expected. -/
theorem headerAnswers_replyBytes {x : Exchange} {a k code : Byte} {e payload : List Byte}
    (he : e.length = (ownEcho x.poll).length) :
    headerAnswers x (replyBytes a k code e payload) = true ↔
      a = byte (x.node.val + 1) ∧ k = ownReplyKind x.poll ∧ (1 ≤ code.toNat % 128 ∧ code.toNat % 128 ≤ 3) ∧
      e = ownEcho x.poll := by
  unfold headerAnswers
  rw [replyCode_replyBytes, replyBytes_eq, replyKind_eq]
  simp only [List.getElem?_cons_zero, List.getElem?_cons_succ, Bool.and_eq_true, beq_iff_eq, Option.some.injEq,
    decide_eq_true_eq, nodeAddress]
  cases hx : x.poll with
  | piece id kind offset n =>
    obtain ⟨b, rfl⟩ := List.length_eq_one_iff.1 (he.trans (by rw [hx]; rfl))
    simp [ownEcho]
    tauto
  | collect | value | hold | probe =>
    obtain rfl := List.eq_nil_of_length_eq_zero (he.trans (by rw [hx]; rfl))
    simp [ownEcho]
    tauto

/-! ### Damaged and short replies -/

/-- A reply that ends short of what it declares, or of its header, is not complete. -/
theorem replyComplete_take {p : Poll} {a k code : Byte} {e payload : List Byte} (he : e.length = (ownEcho p).length)
    (hp : payload.length ≤ 255) {n : Nat} (hn : n < (replyBytes a k code e payload).length) :
    replyComplete p ((replyBytes a k code e payload).take n) = false := by
  by_cases header : 4 + e.length ≤ n
  · rw [replyComplete, replyLength_of_take (n := n) he hp header (by rw [List.take_take, min_self])]
    exact decide_eq_false (by rw [List.length_take]; omega)
  · have missing : declaredLength p ((replyBytes a k code e payload).take n) = none := by
      rw [declaredLength, List.getElem?_eq_none, Option.map_none]
      rw [List.length_take, replyHeaderLength_eq]
      omega
    rw [replyComplete, replyLength, missing]
    rfl

theorem judgeReply_of_incomplete {x : Exchange} {bytes : List Byte} (h : replyComplete x.poll bytes = false) :
    judgeReply x bytes = .crcError := by
  rw [judgeReply, h]
  rfl

theorem judgeReply_damaged {x : Exchange} {a k code : Byte} {e payload bytes : List Byte}
    (he : e.length = (ownEcho x.poll).length) (hp : payload.length ≤ 255)
    (size : bytes.length = (replyBytes a k code e payload).length)
    (agree : bytes.take ((replyBytes a k code e payload).length - 2) =
      (replyBytes a k code e payload).take ((replyBytes a k code e payload).length - 2))
    (other : bytes ≠ replyBytes a k code e payload) : judgeReply x bytes = .crcError := by
  have header : 4 + e.length ≤ (replyBytes a k code e payload).length - 2 := by rw [length_replyBytes]; omega
  have frame : replyFrame x.poll bytes = bytes := by
    rw [replyFrame, replyLength_of_take he hp header agree]
    exact size ▸ List.take_length
  have bad : crcGood bytes = false := Bool.eq_false_iff.2 fun good => other <| by
    have own := eq_withCrc_of_crcGood (crcGood_withCrc ([a, k, code] ++ e ++ [byte payload.length] ++ payload))
    rw [eq_withCrc_of_crcGood good, size, agree]
    exact own.symm
  rw [judgeReply, frame, bad]
  simp

/-! ### The content of an ACCEPT -/

theorem identityOf_isSome {payload : List Byte} (h : payload.length = 8) :
    (identityOf payload).isSome = true ↔ 1 ≤ ((payload[2]?).getD 0).toNat ∧ ((payload[2]?).getD 0).toNat ≤ 16 ∧
      8 ≤ ((payload[3]?).getD 0).toNat ∧ ((payload[3]?).getD 0).toNat ≤ 128 := by
  match payload with
  | t1 :: t0 :: ch :: lp :: rest =>
    rw [identityOf]
    simp only [List.getElem?_cons_succ, List.getElem?_cons_zero, Option.getD_some]
    split
    · next inRange => exact iff_of_true rfl inRange
    · next outside => exact iff_of_false (by simp) outside
  | [] | [_] | [_, _] | [_, _, _] => simp at h

theorem judgeContent_replyBytes {p : Poll} {a k code : Byte} {e payload : List Byte}
    (he : e.length = (ownEcho p).length) (hp : payload.length = ownAcceptLength p) (hl : payload.length ≤ 255) :
    judgeContent p (replyBytes a k code e payload) =
      match (generalizing := false) p with
      | .collect _ _ bit _ => if code.msb = bit then .ok else .duplicate
      | .value _ _ bit _ => if code.msb = bit then .ok else .crcError
      | .probe =>
        if 1 ≤ ((payload[2]?).getD 0).toNat ∧ ((payload[2]?).getD 0).toNat ≤ 16 ∧ 8 ≤ ((payload[3]?).getD 0).toNat ∧
            ((payload[3]?).getD 0).toNat ≤ 128 then .ok
        else .crcError
      | _ => .ok := by
  cases p with
  | collect | value => simp only [judgeContent, replyBit_replyBytes]
  | hold | piece => rfl
  | probe =>
    rw [judgeContent, replyPayload_replyBytes he hl]
    simp only [identityOf_isSome hp]

/-- Settles O53: the tests of Table 5-3 in order. -/
theorem replyJudgement : Obligations.ReplyJudgement := by
  intro x code payload hp
  refine ⟨?_, fun a k e he other => ?_, fun n hn => ?_, fun bytes size agree other => ?_⟩
  · refine (judgeReply_replyBytes rfl hp).trans ?_
    have header := headerAnswers_replyBytes (x := x) (a := byte (x.node.val + 1)) (k := ownReplyKind x.poll)
      (code := code) (payload := payload) (e := ownEcho x.poll) rfl
    simp only [true_and, and_true] at header
    have expected : expectedPayload x.poll (code.toNat % 128) =
        if code.toNat % 128 = 1 then ownAcceptLength x.poll else 0 := by rw [expectedPayload, acceptPayload_eq]
    rw [expected]
    by_cases out : code.toNat % 128 < 1 ∨ 3 < code.toNat % 128
    · rw [if_pos (Bool.eq_false_iff.2 fun hc => by have := header.1 hc; omega), if_pos out]
    · rw [if_neg (by rw [header.2 (by omega)]; decide), if_neg out]
      by_cases hl : payload.length ≠ if code.toNat % 128 = 1 then ownAcceptLength x.poll else 0
      · rw [if_pos hl, if_pos hl]
      · rw [if_neg hl, if_neg hl]
        by_cases h2 : code.toNat % 128 = 2
        · rw [if_pos h2, if_pos h2]
        · rw [if_neg h2, if_neg h2]
          by_cases h3 : code.toNat % 128 = 3
          · rw [if_pos h3, if_pos h3]
          · rw [if_neg h3, if_neg h3]
            rw [if_pos (by omega), not_not] at hl
            exact judgeContent_replyBytes rfl hl hp
  · refine (judgeReply_replyBytes he hp).trans (if_pos (Bool.eq_false_iff.2 fun hc => ?_))
    obtain ⟨node, kind, -, echo⟩ := (headerAnswers_replyBytes he).1 hc
    exact other.elim (· node) fun h => h.elim (· kind) (· echo)
  · exact judgeReply_of_incomplete (replyComplete_take rfl hp hn)
  · exact judgeReply_damaged rfl hp size agree other

end Sys2Proof.Machine
end

section
/-! PROOFS. CLOSE_STREAM and CANCEL_REQUEST, with the phases that end by them (R12 to R14, R20, R98, R106, R133, R141, R162,
R170, R175). -/

namespace Sys2Proof.Machine

/-! ### A result composed in the step that moves the phases on -/

/-- The host side of the state replaced. -/
def State.withHost (s : State) (ports : PerPort HostPort) (arbiter : Arbiter) : State :=
  { s with ports := ports, arbiter := arbiter }

theorem acyclicBegun_withHost (s : State) (ports : PerPort HostPort) (arbiter : Arbiter) :
    acyclicBegun (s.withHost ports arbiter) = (acyclicBegun s).withHost ports arbiter := rfl

/-- The phases turn on nothing of the host side. -/
theorem movedOn_withHost (s : State) (ports : PerPort HostPort) (arbiter : Arbiter) :
    movedOn (s.withHost ports arbiter) = (movedOn s).withHost ports arbiter := by
  have begun := acyclicBegun_withHost s ports arbiter
  unfold movedOn
  rw [begun]
  by_cases hi : s.engine.state.inFlight ≠ none
  · rw [if_pos hi, if_pos (by exact hi)]
  · rw [if_neg hi, if_neg (by exact hi)]
    have phase : (s.withHost ports arbiter).trunk.phase = s.trunk.phase := rfl
    rw [phase]
    cases s.trunk.phase with
    | cyclic =>
      dsimp only
      rw [apply_ite (fun t : State => t.withHost ports arbiter), apply_ite (fun t : State => t.withHost ports arbiter)]
      rfl
    | retry =>
      dsimp only
      rw [apply_ite (fun t : State => t.withHost ports arbiter)]
      rfl
    | _ => rfl

theorem State.compose_eq_withHost (s : State) (p : Port) (tag : Byte) (r : ResultCode) (body : List Byte) :
    s.compose p tag r body =
      s.withHost (s.ports.put p { s.ports.get p with state := .resultReady (resultFrame tag r body) }) s.arbiter := rfl

theorem State.advance_compose {s : State} (hs : s.EntriesOnce) (p : Port) (tag : Byte) (r : ResultCode)
    (body : List Byte) : s.advance.compose p tag r body = movedOn (s.compose p tag r body) := by
  have ports : s.advance.ports = s.ports := by simp
  have arbiter : s.advance.arbiter = s.arbiter := by simp
  rw [State.compose_eq_withHost, State.compose_eq_withHost, movedOn_withHost, ports, arbiter, State.advance_eq hs]

theorem movedOn_of_inFlight {s : State} (h : s.engine.state.inFlight ≠ none) : movedOn s = s := if_pos h

/-- An owner that parks the command. -/
theorem State.serve_of_park {s t : State} {p : Port} {name : CommandName} {c : Command} {rest : List Command}
    {owner : Port → List Byte → State → State × Answer} {k : ParkKind}
    (hn : s.IsNext p name c rest) (ho : owner p c.body (s.taken rest) = (t, .park k)) :
    s.serve p name owner = { t with arbiter := { t.arbiter with parked := some ⟨k, c.port, c.tag, false⟩ } } := by
  obtain ⟨hw, hp, hc⟩ := hn
  rw [s.serve_eq p name owner c rest hw hp hc, ← State.taken, ho]
  rfl

/-! ### CANCEL_REQUEST (R141, R175) -/

theorem State.cancel_of_idle {s : State} {id : ReqId} {q : Request} (hc : q.state ≠ .cancelling)
    (hf : ¬(q.state = .active ∧ s.requestInFlight id = true)) :
    s.cancel id q = { s with acyclic := outOfQueue s id none } := by
  rw [State.cancel, if_neg hc, if_neg hf, State.freeRequest_eq]

theorem State.cancel_in_flight {s : State} {id : ReqId} {q : Request} (ha : q.state = .active)
    (hf : s.requestInFlight id = true) :
    s.cancel id q = { s with acyclic := outOfQueue s id (some { q with state := .cancelling }) } := by
  rw [State.cancel, if_neg (by simp [ha]), if_pos ⟨ha, hf⟩]
  exact State.eq_of_fields rfl rfl rfl rfl rfl rfl rfl (State.acyclic_leaveQueue_setRequest s id _) rfl rfl rfl rfl rfl

theorem ownCancelRequest_of_taken {s : State} {p : Port} {b : Byte} {id : ReqId} {q : Request}
    (hid : b.toNat = id.val) (hq : s.request id = some q) :
    ownCancelRequest p [b] s =
      if q.owner = p then
        if q.state = .cancelling then s.refuse .wrongState
        else if q.state = .active ∧ s.requestInFlight id = true then (s.cancel id q, .park (.cancel id))
        else ((s.cancel id q).advance, .reply .ok ([byte (reqStateCode q.state)] ++ be16 q.progress))
      else s.refuse .notOwner :=
  State.withOwnRequest_of_taken hid hq

/-- Settles O27: the checks of CANCEL_REQUEST, the record freed, or CANCELLING with the command parked. -/
theorem cancelRequest : Obligations.CancelRequest := by
  intro p s c rest hs hn
  refine ⟨idRefusals_of_own hn rfl fun body => rfl, fun b id q hb hid hq => ?_⟩
  have own := ownCancelRequest_of_taken (s := s.taken rest) (p := p) hid hq
  rw [← hb] at own
  have unchanged : ∀ {r bytes}, ownCancelRequest p c.body (s.taken rest) = (s.taken rest, .reply r bytes) →
      exec (.cancelRequest p) s = .next (s.answered c rest r bytes) :=
    fun h => congrArg Host.Outcome.next (State.serve_of_unchanged hn h)
  refine ⟨fun ho => unchanged (own.trans (if_neg ho)),
    fun ho hc => unchanged (own.trans ((if_pos ho).trans (if_pos hc))), fun ho hc idle => ?_, fun ho ha hf => ?_⟩
  · have free : ¬(q.state = .active ∧ s.requestInFlight id = true) := fun ⟨ha, hf⟩ =>
      idle.elim (· ha) fun h => by rw [hf] at h; cases h
    have freed := own.trans ((if_pos ho).trans ((if_neg hc).trans (if_neg free)))
    refine congrArg Host.Outcome.next ((State.serve_of_reply hn freed).trans ?_)
    rw [State.cancel_of_idle hc (by exact free), State.advance_compose (by exact hs)]
    rfl
  · have parked := own.trans ((if_pos ho).trans ((if_neg (by simp [ha])).trans (if_pos ⟨ha, hf⟩)))
    refine congrArg Host.Outcome.next ((State.serve_of_park hn parked).trans ?_)
    rw [State.cancel_in_flight ha (by exact hf), hn.2.1]
    rfl

/-! ### CLOSE_STREAM (R12 to R14, R20, R170) -/

theorem State.mem_dropAmendment (s : State) (h : Handle) (r : StreamRecord) :
    (s.dropAmendment h r).store.mem = s.store.mem := by
  rw [State.free_dropAmendment, State.mem_store_releaseBlocks]

theorem boolByte_isSome_eq (o : Option Amendment) : boolByte o.isSome = if o = none then 0 else 1 := by
  cases o <;> rfl

theorem ownCloseStream_of_own {s : State} {p : Port} {b : Byte} {h : Handle} {r : StreamRecord}
    (hh : b.toNat = h.val) (hr : s.record h = some r) (ho : r.owner = p) (hc : r.state ≠ .closing) :
    ownCloseStream p [b] s =
      if s.recordInFlight h then (s.retire h r, .park (.close h r.amendment.isSome))
      else ((s.retire h r).advance, .reply .ok [byte h.val, 0, boolByte r.amendment.isSome]) :=
  (State.withOwnRecord_of_live hh.symm hr).trans ((if_pos ho).trans (if_neg hc))

/-- What a record becomes while its exchange is in flight: `u` is `s` with it CLOSING (R12, R14, R20, R97). -/
structure State.LeftClosing (s : State) (h : Handle) (r : StreamRecord) (u : State) : Prop where
  replaced : s.Replaced h (some { r with amendment := none, state := .closing }) u
  load : u.table.load = (s.dropAmendment h r).table.load
  store : u.store = (s.dropAmendment h r).store
  sched : u.sched = unlisted s h
  kept : u.ports = s.ports ∧ u.attn = s.attn ∧ u.arbiter = s.arbiter ∧ u.trunk = s.trunk ∧ u.acyclic = s.acyclic ∧
    u.roster = s.roster ∧ s.SameLine u

theorem State.leftClosing_retire {s : State} {h : Handle} {r : StreamRecord} (hc : r.state ≠ .closing)
    (hf : s.recordInFlight h = true) : s.LeftClosing h r (s.retire h r) := by
  rw [State.retire_in_flight hc hf]
  exact {
    replaced := ⟨State.record_setRecord_same _ _ _, fun k hk =>
      (State.record_setRecord_other _ _ _ _ hk).trans (State.record_dropAmendment_other hk)⟩
    load := by simp
    store := by simp
    sched := by
      rw [State.sched_excuse]
      simp [unlisted]
    kept := by simp [State.SameLine] }

/-- Settles O19: the record freed at once, or CLOSING with the command parked. -/
theorem closeStream : Obligations.CloseStream := by
  intro p s c rest b h r hs hn hb hh hr ho hc
  have own := ownCloseStream_of_own (s := s.taken rest) hh hr ho hc
  rw [← hb] at own
  have once : ((s.taken rest).retire h r).EntriesOnce :=
    (State.keeps_retire (s := s.taken rest) hr).entries hs
  by_cases hf : s.recordInFlight h = true
  · have parked := own.trans (if_pos hf)
    have exchange : s.engine.state.inFlight ≠ none := fun idle => by
      rw [State.recordInFlight_eq, idle] at hf
      cases hf
    have left := State.leftClosing_retire (s := s.taken rest) hc hf
    obtain ⟨ports, attn, arbiter, trunk, acyclic, roster, line⟩ := left.kept
    have node (m : Node) : ((s.taken rest).retire h r).node m = s.node m := by rw [State.node, roster]; rfl
    have taken := State.dropAmendment_taken s rest h r
    refine ⟨_, congrArg Host.Outcome.next ((State.serve_of_park hn parked).trans (movedOn_of_inFlight ?_).symm),
      left.replaced.2, left.sched, attn, trunk, acyclic, line, ?_, fun m _ => node m,
      fun hf' => absurd (hf.symm.trans hf') nofun, fun _ => ⟨left.replaced.1,
        ⟨s.dropAmendment h r, State.releasedFrom_dropAmendment hr, ?_, ?_⟩, node _, ports, ?_⟩⟩
    · rwa [show ((s.taken rest).retire h r).engine = s.engine from line.1]
    · rw [left.store, taken]
      exact State.mem_dropAmendment s h r
    · rw [left.load, taken]
      rfl
    · rw [left.store, taken]
      rfl
    · rw [arbiter, hn.2.1]
      cases r.amendment <;> rfl
  · have answered := own.trans (if_neg hf)
    rw [Bool.not_eq_true] at hf
    have freed := State.freedWhole_retire (s := s.taken rest) hc hf
    obtain ⟨ports, attn, arbiter, trunk, acyclic, line⟩ := freed.kept
    refine ⟨_, congrArg Host.Outcome.next ((State.serve_of_reply hn answered).trans (State.advance_compose once _ _ _ _)),
      freed.replaced.2, freed.sched, attn, trunk, acyclic, line, freed.mem, fun m hm => ?_, fun _ => ⟨freed.replaced.1,
        freed.load, freed.free, ?_, arbiter, ?_⟩, fun hf' => absurd (hf.symm.trans hf') nofun⟩
    · exact (State.node_of_roster freed.roster m).trans (if_neg hm)
    · exact (State.node_of_roster freed.roster _).trans (if_pos rfl)
    · rw [State.compose_eq_withHost, ← boolByte_isSome_eq]
      dsimp only [State.withHost]
      rw [ports]
      rfl

end Sys2Proof.Machine
end

section
/-! PROOFS. A host command is refused with nothing changed, answered OK, or parked (R158, R162, R167). -/

namespace Sys2Proof.Machine

/-- What an owner may answer: a refusal that changes nothing, OK, or the command parked with the host side left alone. -/
inductive State.Judged (s : State) : State × Answer → Prop where
  | refused (r : ResultCode) (bytes : List Byte) (h : r ≠ .ok) : s.Judged (s, .reply r bytes)
  | ok (t : State) (bytes : List Byte) : s.Judged (t, .reply .ok bytes)
  | parked (t : State) (k : ParkKind) (ports : t.ports = s.ports) (arbiter : t.arbiter = s.arbiter) :
      s.Judged (t, .park k)

theorem State.judged_refuse (s : State) {r : ResultCode} (h : r ≠ .ok) : s.Judged (s.refuse r) := .refused r [] h

/-- What a command whose owner judges so comes to. -/
theorem State.Judged.served {s : State} {p : Port} {name : CommandName} {c : Command} {rest : List Command}
    {own : Port → List Byte → State → State × Answer} (hn : s.IsNext p name c rest)
    (ho : (s.taken rest).Judged (own p c.body (s.taken rest))) :
    (∃ r bytes, r ≠ .ok ∧ s.serve p name own = s.answered c rest r bytes) ∨
    (∃ bytes, ((s.serve p name own).ports.get p).state = .resultReady (resultFrame c.tag .ok bytes)) ∨
    ((s.serve p name own).ports = s.ports ∧
      ∃ k, (s.serve p name own).arbiter = ⟨rest, some ⟨k, p, c.tag, false⟩⟩) := by
  obtain ⟨-, hp, -⟩ := id hn
  generalize hout : own p c.body (s.taken rest) = out at ho
  cases ho with
  | refused r bytes h => exact .inl ⟨r, bytes, h, State.serve_of_unchanged hn hout⟩
  | ok t bytes =>
    refine .inr (.inl ⟨bytes, ?_⟩)
    rw [State.serve_of_reply hn hout, hp, State.compose_eq_withHost]
    simp [State.withHost]
  | parked t k ports arbiter =>
    refine .inr (.inr ?_)
    rw [State.serve_of_park hn hout, hp]
    exact ⟨ports, k, by rw [arbiter]; rfl⟩

/-! ### The checks that commands share -/

theorem State.judged_withRecord {s : State} {b : Byte} {act : Handle → StreamRecord → State × Answer}
    (ha : ∀ h r, s.Judged (act h r)) : s.Judged (s.withRecord b act) := by
  unfold State.withRecord
  split
  · exact s.judged_refuse nofun
  · split
    · exact s.judged_refuse nofun
    · exact ha _ _

theorem State.judged_withOwnRecord {s : State} {p : Port} {b : Byte} {act : Handle → StreamRecord → State × Answer}
    (ha : ∀ h r, s.Judged (act h r)) : s.Judged (s.withOwnRecord p b act) :=
  State.judged_withRecord fun h r => by
    split
    · exact ha h r
    · exact s.judged_refuse nofun

theorem State.judged_withOwnRequest {s : State} {p : Port} {body : List Byte} {act : ReqId → Request → State × Answer}
    (ha : ∀ id q, s.Judged (act id q)) : s.Judged (s.withOwnRequest p body act) := by
  unfold State.withOwnRequest
  split
  · exact s.judged_refuse nofun
  · split
    · exact s.judged_refuse nofun
    · split
      · exact s.judged_refuse nofun
      · split
        · exact ha _ _
        · exact s.judged_refuse nofun

/-! ### The commands on streams -/

section Streams

variable (p : Port) (body : List Byte) (s : State)

theorem judged_ownOpenStream : s.Judged (ownOpenStream p body s) := by
  unfold ownOpenStream
  split
  · exact s.judged_refuse nofun
  · split
    · exact s.judged_refuse nofun
    · split
      · exact s.judged_refuse nofun
      · unfold State.judgeOpen
        dsimp only
        split
        · exact s.judged_refuse nofun
        · split
          · exact s.judged_refuse nofun
          · split
            · exact s.judged_refuse nofun
            · split
              · exact s.judged_refuse nofun
              · split
                · exact s.judged_refuse nofun
                · exact .ok _ _

theorem State.host_retire (h : Handle) (r : StreamRecord) :
    (s.retire h r).ports = s.ports ∧ (s.retire h r).arbiter = s.arbiter := by simp

theorem judged_ownCloseStream : s.Judged (ownCloseStream p body s) := by
  unfold ownCloseStream
  split
  · exact s.judged_refuse nofun
  · refine State.judged_withOwnRecord fun h r => ?_
    split
    · exact s.judged_refuse nofun
    · split
      · exact .parked _ _ (s.host_retire h r).1 (s.host_retire h r).2
      · exact .ok _ _

theorem judged_ownReadStream : s.Judged (ownReadStream p body s) := by
  unfold ownReadStream
  split
  · exact s.judged_refuse nofun
  · refine State.judged_withRecord fun h r => ?_
    split
    · exact .ok _ _
    · split
      · exact .ok _ _
      · exact s.judged_refuse nofun

theorem judged_ownFindStream : s.Judged (ownFindStream p body s) := by
  unfold ownFindStream
  split
  · exact s.judged_refuse nofun
  · split
    · exact s.judged_refuse nofun
    · split
      · exact s.judged_refuse nofun
      · split
        · exact s.judged_refuse nofun
        · exact .ok _ _

theorem judged_ownPostValue : s.Judged (ownPostValue p body s) := by
  unfold ownPostValue
  split
  · exact s.judged_refuse nofun
  · refine State.judged_withOwnRecord fun h r => ?_
    split
    · exact s.judged_refuse nofun
    · split
      · exact s.judged_refuse nofun
      · exact .ok _ _

theorem judged_ownRenewLeases : s.Judged (ownRenewLeases p body s) := by
  unfold ownRenewLeases
  split
  · exact s.judged_refuse nofun
  · exact .ok _ _

theorem judged_ownRestartStream : s.Judged (ownRestartStream p body s) := by
  unfold ownRestartStream
  split
  · exact s.judged_refuse nofun
  · refine State.judged_withOwnRecord fun h r => ?_
    split
    · exact s.judged_refuse nofun
    · exact .ok _ _

theorem judged_ownReadLoad : s.Judged (ownReadLoad p body s) := by
  unfold ownReadLoad
  split
  · exact s.judged_refuse nofun
  · split
    · exact s.judged_refuse nofun
    · exact .ok _ _

end Streams

/-! ### The other commands -/

section Others

variable (p : Port) (body : List Byte) (s : State)

theorem judged_ownSendRequest : s.Judged (ownSendRequest p body s) := by
  unfold ownSendRequest
  split
  · exact s.judged_refuse nofun
  · split
    · exact s.judged_refuse nofun
    · split
      · exact s.judged_refuse nofun
      · split
        · exact s.judged_refuse nofun
        · exact .ok _ _

theorem judged_ownFetchRequest : s.Judged (ownFetchRequest p body s) :=
  State.judged_withOwnRequest fun id q => by
    split
    · exact .ok _ _
    · exact .ok _ _
    all_goals exact .refused _ _ nofun

theorem State.host_cancel (id : ReqId) (q : Request) :
    (s.cancel id q).ports = s.ports ∧ (s.cancel id q).arbiter = s.arbiter := by simp

theorem judged_ownCancelRequest : s.Judged (ownCancelRequest p body s) :=
  State.judged_withOwnRequest fun id q => by
    split
    · exact s.judged_refuse nofun
    · split
      · exact .parked _ _ (s.host_cancel id q).1 (s.host_cancel id q).2
      · exact .ok _ _

theorem judged_ownReadNode : s.Judged (ownReadNode p body s) := by
  unfold ownReadNode
  split
  · exact s.judged_refuse nofun
  · split
    · exact s.judged_refuse nofun
    · exact .ok _ _

theorem judged_ownScanNodes : s.Judged (ownScanNodes p body s) := by
  unfold ownScanNodes
  split
  · exact s.judged_refuse nofun
  · exact .ok _ _

theorem judged_ownHaltTrunk : s.Judged (ownHaltTrunk p body s) := by
  unfold ownHaltTrunk
  split
  · exact s.judged_refuse nofun
  · split
    · exact .ok _ _
    · exact s.judged_refuse nofun

theorem judged_ownSetConfig : s.Judged (ownSetConfig p body s) := by
  unfold ownSetConfig
  split
  · exact s.judged_refuse nofun
  · dsimp only
    split
    · exact s.judged_refuse nofun
    · split
      · exact s.judged_refuse nofun
      · split
        · exact s.judged_refuse nofun
        · exact .ok _ _

theorem judged_ownReadConfig : s.Judged (ownReadConfig p body s) := by
  unfold ownReadConfig
  split
  · exact s.judged_refuse nofun
  · exact .ok _ _

theorem judged_ownReadAttn : s.Judged (ownReadAttn p body s) := by
  unfold ownReadAttn
  split
  · exact s.judged_refuse nofun
  · exact .ok _ _

theorem judged_ownSetAttnMask : s.Judged (ownSetAttnMask p body s) := by
  unfold ownSetAttnMask
  split
  · exact s.judged_refuse nofun
  · exact .ok _ _

end Others

/-- Every plain command is served by an owner that judges so. -/
theorem plainCommand_judged {p : Port} {i : Instr} {name : CommandName} (hi : (i, name) ∈ plainCommands p) :
    ∃ own, (∀ s, exec i s = .next (s.serve p name own)) ∧ ∀ body (s : State), s.Judged (own p body s) := by
  simp only [plainCommands, List.mem_cons, Prod.mk.injEq, List.not_mem_nil, or_false] at hi
  obtain ⟨rfl, rfl⟩ | ⟨rfl, rfl⟩ | ⟨rfl, rfl⟩ | ⟨rfl, rfl⟩ | ⟨rfl, rfl⟩ | ⟨rfl, rfl⟩ | ⟨rfl, rfl⟩ | ⟨rfl, rfl⟩ |
    ⟨rfl, rfl⟩ | ⟨rfl, rfl⟩ | ⟨rfl, rfl⟩ | ⟨rfl, rfl⟩ | ⟨rfl, rfl⟩ | ⟨rfl, rfl⟩ | ⟨rfl, rfl⟩ | ⟨rfl, rfl⟩ | ⟨rfl, rfl⟩ |
    ⟨rfl, rfl⟩ := hi
  · exact ⟨_, fun _ => rfl, judged_ownOpenStream p⟩
  · exact ⟨_, fun _ => rfl, judged_ownCloseStream p⟩
  · exact ⟨_, fun _ => rfl, judged_ownReadStream p⟩
  · exact ⟨_, fun _ => rfl, judged_ownFindStream p⟩
  · exact ⟨_, fun _ => rfl, judged_ownPostValue p⟩
  · exact ⟨_, fun _ => rfl, judged_ownRenewLeases p⟩
  · exact ⟨_, fun _ => rfl, judged_ownRestartStream p⟩
  · exact ⟨_, fun _ => rfl, judged_ownReadLoad p⟩
  · exact ⟨_, fun _ => rfl, judged_ownSendRequest p⟩
  · exact ⟨_, fun _ => rfl, judged_ownFetchRequest p⟩
  · exact ⟨_, fun _ => rfl, judged_ownCancelRequest p⟩
  · exact ⟨_, fun _ => rfl, judged_ownReadNode p⟩
  · exact ⟨_, fun _ => rfl, judged_ownScanNodes p⟩
  · exact ⟨_, fun _ => rfl, judged_ownHaltTrunk p⟩
  · exact ⟨_, fun _ => rfl, judged_ownSetConfig p⟩
  · exact ⟨_, fun _ => rfl, judged_ownReadConfig p⟩
  · exact ⟨_, fun _ => rfl, judged_ownReadAttn p⟩
  · exact ⟨_, fun _ => rfl, judged_ownSetAttnMask p⟩

/-- Settles O13: every plain command's owner refuses unchanged, answers OK or parks. -/
theorem commandRefusedAnsweredOrParked : Obligations.CommandRefusedAnsweredOrParked := by
  intro p i name s c rest hi hn
  obtain ⟨own, serves, judged⟩ := plainCommand_judged hi
  exact ⟨_, serves s, State.Judged.served hn (judged c.body (s.taken rest))⟩

end Sys2Proof.Machine
end

section
/-! PROOFS. The ends of exchanges: the state a report finds, the reports made, and what an outcome leaves of the record that
was polled (R15, R49, R54, R82, R84, R85, R88, R98, R100 to R106, R109, R117, R118, R122, R162, R164). -/

namespace Sys2Proof.Machine

/-! ### The state as a report finds it (R82, R84, R85, R88) -/

/-- The payload bytes of the reply that an end of an exchange brings. -/
def endPayload (p : Poll) (c : Instr) : List Byte :=
  match c with
  | .replyEnd bytes _ => replyPayload p bytes
  | .slotEndOverlong bytes => replyPayload p bytes
  | _ => []

/-- The state as the report of an exchange finds it, with the reply's payload bytes placed. -/
def State.ended (s : State) (x : Exchange) (c : Instr) (m : Nat) (next : EngineState) : State :=
  { exchangeOver s c m next with
    store := { s.store with mem := s.payloadMem x.poll (endPayload x.poll c) }
    engine := ⟨next, heldIdentity s x.poll (endPayload x.poll c)⟩ }

theorem heldIdentity_of_ne_probe {s : State} {p : Poll} (h : p ≠ .probe) (payload : List Byte) :
    heldIdentity s p payload = s.engine.identity := if_neg h

theorem heldIdentity_nil (s : State) (p : Poll) : heldIdentity s p [] = s.engine.identity := by
  unfold heldIdentity
  split <;> simp

/-- Only a probe's reply changes the identity holding. -/
theorem State.ended_of_ne_probe {s : State} {x : Exchange} (h : x.poll ≠ .probe) (c : Instr) (m : Nat)
    (next : EngineState) : s.ended x c m next =
      { exchangeOver s c m next with
        store := { s.store with mem := s.payloadMem x.poll (endPayload x.poll c) } } := by
  rw [State.ended, heldIdentity_of_ne_probe h]
  rfl

theorem State.endPlaced_payloadMem (s : State) (x : Exchange) (c : Instr) :
    endPlaced s x c (s.payloadMem x.poll (endPayload x.poll c)) := by
  have unplaced : s.payloadMem x.poll [] = s.store.mem := by simp [State.payloadMem, Memory.writeAll]
  cases c
  case replyEnd => exact s.placed_payloadMem x.poll _
  case slotEndOverlong => exact s.placed_payloadMem x.poll _
  all_goals exact unplaced

/-- Payload bytes placed at a moment that is not the event's own: what places them turns on neither. -/
theorem State.exec_replyEnd {s : State} {x : Exchange} {start m : Nat} {bytes : List Byte} {gaps : Nat}
    (hx : s.engine.state = .receiving x start) (some_byte : bytes ≠ [])
    (hg : gaps ≤ (replyFrame x.poll bytes).length - 2) (hm : m = replyEndMoment x.poll start bytes gaps)
    (reaches : s.reaches m = true) : exec (.replyEnd bytes gaps) s =
      .next ((s.ended x (.replyEnd bytes gaps) m .idle).endExchange x (judgeReply x bytes)) := by
  subst hm
  show execReplyEnd bytes gaps s = _
  simp only [execReplyEnd, hx]
  rw [if_pos ⟨some_byte, hg, reaches⟩, State.placePayload_eq]
  rfl

theorem State.exec_slotEndOverlong {s : State} {x : Exchange} {start : Nat} {bytes : List Byte}
    (hx : s.engine.state = .receiving x start) (still : stillArriving x.poll (x.slotEnd - start) bytes = true)
    (reaches : s.reaches x.slotEnd = true) : exec (.slotEndOverlong bytes) s =
      .next ((s.ended x (.slotEndOverlong bytes) x.slotEnd (.quieting x.slotEnd)).endExchange x .overlong) := by
  show execSlotEndOverlong bytes s = _
  simp only [execSlotEndOverlong, hx]
  rw [if_pos ⟨still, reaches⟩, State.placePayload_eq]
  rfl

theorem State.exec_exchangeTimeout {s : State} {x : Exchange} (hx : s.engine.state = .awaiting x)
    (reaches : s.reaches (x.pollEnd + s.trunk.applied.w) = true) : exec .exchangeTimeout s =
      .next ((s.ended x .exchangeTimeout (x.pollEnd + s.trunk.applied.w) .idle).endExchange x .timeout) := by
  have unplaced : s.payloadMem x.poll (endPayload x.poll .exchangeTimeout) = s.store.mem := by
    simp [State.payloadMem, Memory.writeAll, endPayload]
  have held : heldIdentity s x.poll (endPayload x.poll .exchangeTimeout) = s.engine.identity := heldIdentity_nil s _
  show execExchangeTimeout s = _
  simp only [execExchangeTimeout, hx]
  rw [if_pos reaches, State.ended, unplaced, held]
  rfl

theorem State.exec_endsByReply {s : State} {x : Exchange} {o : ExchangeOutcome} {c : Instr} {m : Nat}
    (h : endsByReply s x o c m) (reaches : s.reaches m = true) :
    exec c s = .next ((s.ended x c m .idle).endExchange x o) := by
  obtain ⟨start, bytes, gaps, hx, some_byte, hg, rfl, hm, rfl⟩ := h
  exact State.exec_replyEnd hx some_byte hg hm reaches

theorem State.exec_endsUnanswered {s : State} {x : Exchange} {c : Instr} {m : Nat} {next : EngineState}
    (h : endsUnanswered s x c m next) (reaches : s.reaches m = true) :
    ∃ o : ExchangeOutcome, o.answered = false ∧ exec c s = .next ((s.ended x c m next).endExchange x o) := by
  obtain ⟨hx, rfl, rfl, rfl⟩ | ⟨hr | hr, rfl⟩ | ⟨start, bytes, hx, still, rfl, rfl, rfl⟩ := h
  · exact ⟨.timeout, rfl, State.exec_exchangeTimeout hx reaches⟩
  · exact ⟨.crcError, rfl, State.exec_endsByReply hr reaches⟩
  · exact ⟨.badLength, rfl, State.exec_endsByReply hr reaches⟩
  · exact ⟨.overlong, rfl, State.exec_slotEndOverlong hx still reaches⟩

/-! ### The reports made -/

theorem State.keeps_reported (s : State) (x : Exchange) (o : ExchangeOutcome) : s.Keeps (s.reported x o) := by
  obtain ⟨h, -, e⟩ | ⟨id, n, -, e⟩ | ⟨-, -, e⟩ := s.reported_cases x o <;> rw [e]
  · exact (s.quiet_report _ _).keeps.trans (State.keeps_serviceResult _ h _ _)
  · exact (s.quiet_endPiece _ _ _ _).keeps
  · exact (s.quiet_endProbe _ _).keeps

theorem State.endExchange_movedOn {s : State} (hs : s.EntriesOnce) (x : Exchange) (o : ExchangeOutcome) :
    s.endExchange x o = movedOn (s.reported x o) := by
  rw [State.endExchange_eq, State.advance_eq ((s.keeps_reported x o).entries hs)]

theorem State.reported_of_handle? {s : State} {x : Exchange} {h : Handle} (hh : x.poll.handle? = some h)
    (o : ExchangeOutcome) : s.reported x o = (s.report x.node o).serviceResult h x.poll o := by
  obtain ⟨h', hh', e⟩ | ⟨id, n, hid, -⟩ | ⟨hn, -, -⟩ := s.reported_cases x o
  · rw [hh, Option.some.injEq] at hh'
    rw [e, hh']
  · rw [Poll.reqId?_of_handle? hh] at hid
    cases hid
  · rw [hh] at hn
    cases hn

theorem Poll.ne_probe_of_handle? {p : Poll} {h : Handle} (hh : p.handle? = some h) : p ≠ .probe := by
  rintro rfl
  cases hh

theorem State.report_answered (s : State) (n : Node) {o : ExchangeOutcome} (ho : o.answered = true) :
    s.report n o = nodeAnswered s n none := by
  rw [State.report, ho]
  exact s.reportAnswered_eq n none

theorem State.report_unanswered {s : State} {n : Node} {o : ExchangeOutcome} (ho : o.answered = false)
    (hl : s.lossDue n = false) :
    s.report n o = { s with roster := withNode s n { s.node n with failures := min ((s.node n).failures + 1) 15 } } := by
  rw [State.report, ho, State.reportUnanswered, hl]
  rfl

@[simp] theorem frame_nodeAnswered (s : State) (n : Node) (i : Option Identity) :
    (nodeAnswered s n i).ports = s.ports ∧ (nodeAnswered s n i).arbiter = s.arbiter ∧
    (nodeAnswered s n i).store = s.store ∧ (nodeAnswered s n i).trunk = s.trunk ∧
    (nodeAnswered s n i).sched = s.sched ∧ (nodeAnswered s n i).acyclic = s.acyclic ∧
    (nodeAnswered s n i).engine = s.engine ∧ (nodeAnswered s n i).pins = s.pins ∧
    (nodeAnswered s n i).freeIndex = s.freeIndex ∧ (nodeAnswered s n i).pending = s.pending := by
  simp only [nodeAnswered, and_self]

theorem sched_nodeAnswered (s : State) (n : Node) (i : Option Identity) : (nodeAnswered s n i).sched = s.sched := by
  simp

/-- An answer wakes SUSPENDED records alone. -/
theorem record_nodeAnswered {s : State} {n : Node} {i : Option Identity} {h : Handle} {r : StreamRecord}
    (hr : s.record h = some r) (hs : r.state ≠ .suspended) : (nodeAnswered s n i).record h = some r := by
  have found : s.table.records[h.val] = some r := hr
  simp only [nodeAnswered, State.record, Vector.getElem_map, found, Option.map_some]
  rw [if_neg fun hb => hs (of_decide_eq_true hb).2.2]

/-! ### Service results (R100 to R105) -/

theorem State.serviceResult_of_active {s : State} {h : Handle} {r : StreamRecord} (hr : s.record h = some r)
    (ha : r.state = .active) (p : Poll) (o : ExchangeOutcome) : s.serviceResult h p o = s.serveRecord h r p o := by
  rw [State.serviceResult, hr]
  dsimp only
  rw [ha]

theorem State.serviceResult_of_closing {s : State} {h : Handle} {r : StreamRecord} (hr : s.record h = some r)
    (hc : r.state = .closing) (p : Poll) (o : ExchangeOutcome) : s.serviceResult h p o = s.endClosing h r := by
  rw [State.serviceResult, hr]
  dsimp only
  rw [hc]

/-- What an answer that publishes nothing leaves of the state, over the report. -/
def servedState (v : State) (h : Handle) (r : StreamRecord) (p : Poll) (o : ExchangeOutcome) : State :=
  { v with
    sched :=
      if o = .refused then unlisted v h
      else { v.sched with entries := disposed v h (if o = .deferred then .unserved else .served) }
    attn := if o = .refused then v.attn.put r.owner ((v.attn.get r.owner).raise (.stream h) .faulted) else v.attn
    table := { v.table with records := v.table.records.set h.val (some (answeredRecord r p o)) h.isLt } }

theorem answeredRecord_duplicate (r : StreamRecord) (p : Poll) :
    answeredRecord r p .duplicate = r.countServed.countDuplicate := rfl

theorem answeredRecord_ok {r : StreamRecord} {p : Poll} {h : Handle} (hp : p.handle? = some h)
    (hc : ∀ k len bit resync, p ≠ .collect k len bit resync) (cycle : Nat) :
    answeredRecord r p .ok = (r.okValues p cycle).countServed := by
  cases p with
  | collect k len bit resync => exact absurd rfl (hc k len bit resync)
  | value | hold => rfl
  | probe | piece => cases hp

/-- A record and its entry replaced in one step. -/
theorem State.setRecord_setDisposition (v : State) (h : Handle) (r : StreamRecord) (d : Disposition) :
    (v.setRecord h (some r)).setDisposition h d =
      { v with
        sched := { v.sched with entries := disposed v h d }
        table := { v.table with records := v.table.records.set h.val (some r) h.isLt } } := rfl

theorem State.serveRecord_answered {v : State} {h : Handle} {r : StreamRecord} {p : Poll} {o : ExchangeOutcome}
    (hp : p.handle? = some h) (ho : o = .duplicate ∨ o = .deferred ∨ o = .refused ∨
      o = .ok ∧ ∀ k len bit resync, p ≠ .collect k len bit resync) :
    v.serveRecord h r p o = servedState v h r p o := by
  unfold servedState
  obtain rfl | rfl | rfl | ⟨rfl, hc⟩ := ho
  · rw [if_neg nofun, if_neg nofun, if_neg nofun, answeredRecord_duplicate]
    exact State.setRecord_setDisposition v h _ _
  · rw [if_neg nofun, if_pos rfl, if_neg nofun]
    exact State.setRecord_setDisposition v h _ _
  · rw [if_pos rfl, if_pos rfl, ← State.sched_excuse]
    generalize hq : answeredRecord r p .refused = q
    have faulted : v.serveRecord h r p .refused = ((v.setRecord h (some q)).excuse h).raise r.owner (.stream h) .faulted := by
      rw [← hq]
      rfl
    rw [faulted]
    rfl
  · rw [if_neg nofun, if_neg nofun, if_neg nofun, answeredRecord_ok hp hc v.trunk.cycle.toNat]
    exact State.setRecord_setDisposition v h _ _

theorem disposed_congr {s t : State} (sched : t.sched = s.sched) (h : Handle) (d : Disposition) :
    disposed t h d = disposed s h d := by
  unfold disposed
  rw [sched]

theorem unlisted_congr {s t : State} (sched : t.sched = s.sched) (h : Handle) : unlisted t h = unlisted s h := by
  unfold unlisted
  rw [sched]

/-- An answer that publishes nothing ends the poll of an ACTIVE record. -/
theorem State.endExchange_served {u : State} {x : Exchange} {h : Handle} {r : StreamRecord} {o : ExchangeOutcome}
    (hs : u.EntriesOnce) (hh : x.poll.handle? = some h) (hr : u.record h = some r) (ha : r.state = .active)
    (ho : o = .duplicate ∨ o = .deferred ∨ o = .refused ∨
      o = .ok ∧ ∀ k len bit resync, x.poll ≠ .collect k len bit resync) :
    u.endExchange x o = movedOn (servedState (nodeAnswered u x.node none) h r x.poll o) := by
  have answered : o.answered = true := by rcases ho with rfl | rfl | rfl | ⟨rfl, -⟩ <;> rfl
  have kept := record_nodeAnswered (n := x.node) (i := none) hr (by simp [ha])
  rw [State.endExchange_movedOn hs, State.reported_of_handle? hh, u.report_answered x.node answered,
    State.serviceResult_of_active kept ha, State.serveRecord_answered hh ho]

/-- An answer ends the poll of a CLOSING record. -/
theorem State.endExchange_closing {u : State} {x : Exchange} {h : Handle} {r : StreamRecord} {o : ExchangeOutcome}
    (hs : u.EntriesOnce) (hh : x.poll.handle? = some h) (hr : u.record h = some r) (hc : r.state = .closing)
    (ho : o.answered = true) :
    u.endExchange x o = movedOn ((nodeAnswered u x.node none).endClosing h r) := by
  have kept := record_nodeAnswered (n := x.node) (i := none) hr (by simp [hc])
  rw [State.endExchange_movedOn hs, State.reported_of_handle? hh, u.report_answered x.node ho,
    State.serviceResult_of_closing kept hc]

theorem servedState_eq {s v : State} (sched : v.sched = s.sched) (h : Handle) (r : StreamRecord) (p : Poll)
    (o : ExchangeOutcome) : servedState v h r p o =
      { v with
        sched :=
          if o = .refused then unlisted s h
          else { s.sched with entries := disposed s h (if o = .deferred then .unserved else .served) }
        attn := if o = .refused then v.attn.put r.owner ((v.attn.get r.owner).raise (.stream h) .faulted) else v.attn
        table := { v.table with records := v.table.records.set h.val (some (answeredRecord r p o)) h.isLt } } := by
  unfold servedState
  rw [unlisted_congr sched, disposed_congr sched, sched]

/-- Settles O55: the outcome applied to an ACTIVE record, or the CLOSING record freed. -/
theorem answeredPoll : Obligations.AnsweredPoll := by
  intro s x h r o c m hs ends reaches hh hr
  have exec_eq := State.exec_endsByReply ends reaches
  rw [State.ended_of_ne_probe (Poll.ne_probe_of_handle? hh)] at exec_eq
  refine ⟨_, s.endPlaced_payloadMem x c, ?_⟩
  generalize hu : { exchangeOver s c m .idle with
    store := { s.store with mem := s.payloadMem x.poll (endPayload x.poll c) } } = u at exec_eq ⊢
  have record : u.record h = some r := by
    rw [← hu]
    exact hr
  have sched : u.sched = s.sched := by rw [← hu]; rfl
  have kept : (nodeAnswered u x.node none).sched = s.sched := (sched_nodeAnswered u _ _).trans sched
  have once : u.EntriesOnce := hs.of_sched sched
  refine ⟨fun ha ho => ?_, fun hc ho => ?_⟩
  · rw [exec_eq, State.endExchange_served once hh record ha
      (ho.imp_right (.imp_right (.imp_right fun ⟨e, _, k⟩ => ⟨e, k⟩))), servedState_eq kept]
  · have answered : o.answered = true := by rcases ho with rfl | rfl | rfl | rfl <;> rfl
    rw [exec_eq, State.endExchange_closing once hh record hc answered]
    exact ⟨_, State.closedAtEnd_endClosing _ h r, rfl⟩

end Sys2Proof.Machine
end

section
/-! PROOFS. A sample published and a poll unanswered (R15, R49, R84, R98, R100, R104 to R106, R109, R118). -/

namespace Sys2Proof.Machine

/-! ### A sample published (R49, R84, R100) -/

theorem nodeAnswered_withStore (s : State) (st : ValueStore) (n : Node) (i : Option Identity) :
    nodeAnswered { s with store := st } n i = { nodeAnswered s n i with store := st } := rfl

/-- A good reply to a COLLECT poll (Table 12-3). -/
theorem judgeReply_sample {x : Exchange} {h : Handle} {len : Nat} {bit resync : Bool} {payload : List Byte}
    (hp : x.poll = .collect h len bit resync) (hl : payload.length = len) (small : len ≤ 128) :
    judgeReply x (replyBytes (byte (x.node.val + 1)) 0x20 (if bit then 0x81 else 0x01) [] payload) = .ok := by
  have size : payload.length ≤ 255 := by omega
  have echo : ([] : List Byte).length = (ownEcho x.poll).length := by rw [hp]; rfl
  have answers : headerAnswers x (replyBytes (byte (x.node.val + 1)) 0x20 (if bit then 0x81 else 0x01) [] payload) = true :=
    (headerAnswers_replyBytes echo).2 ⟨rfl, by rw [hp]; rfl, by cases bit <;> decide, by rw [hp]; rfl⟩
  have code : (if bit = true then (0x81 : Byte) else 0x01).toNat % 128 = 1 := by cases bit <;> decide
  have msb : (if bit = true then (0x81 : Byte) else 0x01).msb = bit := by cases bit <;> decide
  rw [judgeReply_replyBytes echo size, answers, code, if_neg (by decide), if_neg (by rw [hp]; simp [expectedPayload, acceptPayload, hl]),
    if_neg (by decide), if_neg (by decide), judgeContent_replyBytes echo (by rw [hp]; exact hl) size, hp]
  exact if_pos msb

/-- The record with the arrived sample published (R49, R100). -/
theorem publishedRecord_eq (r : StreamRecord) (cycle : Nat) :
    (r.published cycle).countServed = { r with
      publishedHalf := r.publishedHalf.other, sample := some ⟨cycle, 0⟩, seqBit := !r.seqBit
      resync := false
      counters := { r.counters with served := min (r.counters.served + 1) 65535, consecutive := 0 } } := by
  simp only [StreamRecord.countServed, StreamRecord.published, satInc]

theorem State.endExchange_published {u : State} {x : Exchange} {h : Handle} {r : StreamRecord} {len : Nat}
    {bit resync : Bool} (hs : u.EntriesOnce) (hp : x.poll = .collect h len bit resync) (hr : u.record h = some r)
    (ha : r.state = .active) :
    u.endExchange x .ok =
      let v := nodeAnswered u x.node none
      movedOn { v with
        sched := { v.sched with entries := disposed v h .served }
        table := { v.table with
          records := v.table.records.set h.val (some (r.published v.trunk.cycle.toNat).countServed) h.isLt } } := by
  have kept := record_nodeAnswered (n := x.node) (i := none) hr (by simp [ha])
  rw [State.endExchange_movedOn hs, State.reported_of_handle? (by rw [hp]; rfl), u.report_answered x.node rfl,
    State.serviceResult_of_active kept ha, hp]
  dsimp only
  rw [← State.setRecord_setDisposition]
  rfl

/-- Settles O54: the good reply is judged OK and its payload becomes the published half. -/
theorem replyPublishesSample : Obligations.ReplyPublishesSample := by
  intro s x start h len bit resync r payload gaps pool wf hs hx hp hr ha hlen small hl bytes hg reaches
  have frame : bytes = replyBytes (byte (x.node.val + 1)) 0x20 (if bit then 0x81 else 0x01) [] payload := by
    rw [replyBytes, hl]
    rfl
  have size : payload.length ≤ 255 := by omega
  have echo : ([] : List Byte).length = (ownEcho x.poll).length := by rw [hp]; rfl
  have whole : replyFrame x.poll bytes = bytes := by rw [frame, replyFrame_replyBytes echo size]
  have content : replyPayload x.poll bytes = payload := by rw [frame, replyPayload_replyBytes echo size]
  have complete : replyComplete x.poll bytes = true := by rw [frame, replyComplete_replyBytes echo size]
  have ok : judgeReply x bytes = .ok := by rw [frame, judgeReply_sample hp hl small]
  have moment : replyEndMoment x.poll start bytes gaps = start + bytes.length + gaps := by
    rw [replyEndMoment, whole, complete]
    rfl
  have some_byte : bytes ≠ [] := by rw [frame, replyBytes_eq]; nofun
  have exec_eq := State.exec_replyEnd hx some_byte (by rw [whole]; exact hg) moment.symm reaches
  have addrs : s.payloadAddrs x.poll = valueAddrs r.blocks r.publishedHalf.other len := by
    simp only [State.payloadAddrs, hp, hr, Option.elim_some]
  have mem : s.payloadMem x.poll (endPayload x.poll (.replyEnd bytes gaps)) =
      s.store.mem.writeAll (valueAddrs r.blocks r.publishedHalf.other len) payload := by
    rw [State.payloadMem, addrs, endPayload, content]
  rw [ok, State.ended_of_ne_probe (by rw [hp]; nofun), mem] at exec_eq
  refine ⟨_, ?_, Memory.writeAll_value wf (pool.blocks_nodup hr) (hlen ▸ pool.room hr) hl⟩
  generalize s.store.mem.writeAll (valueAddrs r.blocks r.publishedHalf.other len) payload = placed at exec_eq ⊢
  have record : (exchangeOver s (.replyEnd bytes gaps) (start + bytes.length + gaps) .idle).record h = some r := hr
  have cycle : (exchangeOver s (.replyEnd bytes gaps) (start + bytes.length + gaps) .idle).trunk.cycle =
    s.trunk.cycle := rfl
  have sched : (exchangeOver s (.replyEnd bytes gaps) (start + bytes.length + gaps) .idle).sched = s.sched := rfl
  generalize exchangeOver s (.replyEnd bytes gaps) (start + bytes.length + gaps) .idle = u
    at exec_eq record cycle sched ⊢
  rw [exec_eq, State.endExchange_published (by exact hs.of_sched sched) hp (by exact record) ha]
  dsimp only
  rw [nodeAnswered_withStore]
  have kept := frame_nodeAnswered u x.node none
  generalize nodeAnswered u x.node none = v at kept ⊢
  obtain ⟨-, -, -, trunk, entries, -⟩ := kept
  dsimp only
  rw [publishedRecord_eq, trunk, cycle, entries, sched, disposed_congr (s := s) (by rfl)]

/-! ### A poll unanswered (R104, R105, R118) -/

theorem withNode_congr {s t : State} (roster : t.roster = s.roster) (n : Node) (e : RosterEntry) :
    withNode t n e = withNode s n e := by
  unfold withNode
  rw [roster]

/-- The record joins the retry list's tail, or is given up. -/
theorem State.retryOrGiveUp_eq (v : State) (h : Handle) (r : StreamRecord) :
    v.retryOrGiveUp h r =
      let again := v.attempts h ≤ r.params.retryLimit
      { v with sched := { v.sched with
        retry := if again then v.sched.retry ++ [h] else v.sched.retry
        entries := disposed v h (if again then .retryWait else .unserved) } } := by
  unfold State.retryOrGiveUp
  dsimp only
  by_cases again : v.attempts h ≤ r.params.retryLimit
  · rw [if_pos again, if_pos again, if_pos again]
    rfl
  · rw [if_neg again, if_neg again, if_neg again]
    rfl

theorem State.serveRecord_unanswered (v : State) (h : Handle) (r : StreamRecord) (p : Poll) {o : ExchangeOutcome}
    (ho : o.answered = false) : v.serveRecord h r p o = v.retryOrGiveUp h r := by
  cases o with
  | ok | duplicate | deferred | refused => cases ho
  | timeout | crcError | badLength | overlong => rfl

theorem State.attempts_congr {s t : State} (sched : t.sched = s.sched) (h : Handle) : t.attempts h = s.attempts h := by
  unfold State.attempts
  rw [sched]

/-- A poll that ends unanswered and does not lose its node. -/
theorem State.endExchange_unserved {u : State} {x : Exchange} {h : Handle} {r : StreamRecord} {o : ExchangeOutcome}
    (hs : u.EntriesOnce) (hh : x.poll.handle? = some h) (hr : u.record h = some r) (ho : o.answered = false)
    (hl : u.lossDue x.node = false) :
    let v := { u with
      roster := withNode u x.node { u.node x.node with failures := min ((u.node x.node).failures + 1) 15 } }
    (r.state = .active → u.endExchange x o = movedOn (v.retryOrGiveUp h r)) ∧
    (r.state = .closing → u.endExchange x o = movedOn (v.endClosing h r)) := by
  rw [State.endExchange_movedOn hs, State.reported_of_handle? hh, State.report_unanswered ho hl]
  refine ⟨fun ha => ?_, fun hc => ?_⟩
  · rw [State.serviceResult_of_active (by exact hr) ha, State.serveRecord_unanswered _ h r x.poll ho]
  · rw [State.serviceResult_of_closing (by exact hr) hc]

/-- Settles O56: the failure counted, and the record retried, given up or freed. -/
theorem unansweredPoll : Obligations.UnansweredPoll := by
  intro s x h r c m next hs ends reaches hh hr hl
  obtain ⟨o, ho, exec_eq⟩ := State.exec_endsUnanswered ends reaches
  rw [State.ended_of_ne_probe (Poll.ne_probe_of_handle? hh)] at exec_eq
  refine ⟨_, s.endPlaced_payloadMem x c, ?_⟩
  generalize s.payloadMem x.poll (endPayload x.poll c) = mem at exec_eq ⊢
  intro again v
  generalize hu : { exchangeOver s c m next with store := { s.store with mem := mem } } = u at exec_eq
  have sched : u.sched = s.sched := by rw [← hu]; rfl
  have roster : u.roster = s.roster := by rw [← hu]; rfl
  have loss : u.lossDue x.node = false := by rw [← hu]; exact hl
  have record : u.record h = some r := by rw [← hu]; exact hr
  have node : u.node x.node = s.node x.node := by rw [State.node, roster]; rfl
  have hv : v = { u with
      roster := withNode s x.node { s.node x.node with failures := min ((s.node x.node).failures + 1) 15 } } := by
    rw [← hu]
  obtain ⟨active, closing⟩ := State.endExchange_unserved (hs.of_sched sched) hh record ho loss
  rw [withNode_congr roster, node, ← hv] at active closing
  have vsched : v.sched = s.sched := by rw [hv]; exact sched
  refine ⟨fun ha => ?_, fun hc => ⟨_, State.closedAtEnd_endClosing v h r, ?_⟩⟩
  · rw [exec_eq, active ha, State.retryOrGiveUp_eq]
    dsimp only
    rw [State.attempts_congr vsched, disposed_congr vsched, vsched]
  · rw [exec_eq, closing hc]

end Sys2Proof.Machine
end

section
/-! PROOFS. The ends of pieces that are answered and of probes (R58, R84, R86, R117, R119, R122, R126, R127, R133, R135 to
R137, R139, R142, R162, R164). -/

namespace Sys2Proof.Machine

/-! ### A piece answered (R135 to R137, R139, R142) -/

/-- A request out of the queue with its record replaced, and its owner told. -/
theorem State.leaveQueue_setRequest_raise (v : State) (id : ReqId) (o : Option Request) (p : Port) (src : Source)
    (r : Reason) :
    ((v.leaveQueue id).setRequest id o).raise p src r =
      { v with acyclic := outOfQueue v id o, attn := v.attn.put p ((v.attn.get p).raise src r) } :=
  State.eq_of_fields rfl rfl rfl rfl rfl rfl rfl (State.acyclic_leaveQueue_setRequest v id o) rfl rfl rfl rfl rfl

theorem State.failRequest_eq (v : State) (id : ReqId) (q : Request) (why : FailReason) :
    v.failRequest id q why =
      { v with
        acyclic := outOfQueue v id (some { q with state := .failed, reason := some why })
        attn := v.attn.put q.owner ((v.attn.get q.owner).raise (.request id) .requestFailed) } :=
  State.leaveQueue_setRequest_raise v id _ _ _ _

/-- The request after an answered piece (R135 to R137). -/
def answeredRequest (q : Request) (n : Nat) (o : ExchangeOutcome) : Request :=
  match o with
  | .ok => { q with progress := q.progress + n, defers := 0, failures := 0,
                    state := if q.progress + n = q.length then .done else .active }
  | .deferred =>
    if q.defers + 1 = 8 then { q with defers := 8, failures := 0, state := .failed, reason := some .deferLimit }
    else { q with defers := q.defers + 1, failures := 0 }
  | _ => { q with state := .failed, reason := some .refused }

/-- The state after an answered piece of an ACTIVE request, over the report; `q1` is the request after it. -/
def pieceEnded (v : State) (id : ReqId) (owner : Port) (q1 : Request) (o : ExchangeOutcome) : State :=
  { v with
    acyclic :=
      if q1.state ≠ .active then outOfQueue v id (some q1)
      else if o = .deferred then
        { inQueue v id q1 with
          queue := v.acyclic.queue.filter (· ≠ id) ++ [id], deferred := v.acyclic.deferred ++ [id] }
      else inQueue v id q1
    attn :=
      if q1.state = .done then v.attn.put owner ((v.attn.get owner).raise (.request id) .requestDone)
      else if q1.state = .failed then v.attn.put owner ((v.attn.get owner).raise (.request id) .requestFailed)
      else v.attn }

section Ended

variable {v : State} {id : ReqId} {owner : Port} {q1 : Request} {o : ExchangeOutcome}

theorem pieceEnded_of_done (h : q1.state = .done) :
    pieceEnded v id owner q1 o =
      { v with
        acyclic := outOfQueue v id (some q1)
        attn := v.attn.put owner ((v.attn.get owner).raise (.request id) .requestDone) } := by
  simp [pieceEnded, h]

theorem pieceEnded_of_failed (h : q1.state = .failed) :
    pieceEnded v id owner q1 o =
      { v with
        acyclic := outOfQueue v id (some q1)
        attn := v.attn.put owner ((v.attn.get owner).raise (.request id) .requestFailed) } := by
  simp [pieceEnded, h]

theorem pieceEnded_of_active (h : q1.state = .active) :
    pieceEnded v id owner q1 o =
      { v with acyclic :=
        if o = .deferred then
          { inQueue v id q1 with
            queue := v.acyclic.queue.filter (· ≠ id) ++ [id], deferred := v.acyclic.deferred ++ [id] }
        else inQueue v id q1 } := by
  simp [pieceEnded, h]

end Ended

theorem State.pieceOk_eq {q : Request} (v : State) (id : ReqId) (ha : q.state = .active) (n : Nat) :
    v.pieceOk id q n = pieceEnded v id q.owner (answeredRequest q n .ok) .ok := by
  unfold State.pieceOk
  dsimp only
  by_cases hd : q.progress + n = q.length
  · rw [if_pos hd, State.leaveQueue_setRequest_raise, pieceEnded_of_done (by simp [answeredRequest, hd]), answeredRequest,
      if_pos hd]
  · have kept : answeredRequest q n .ok = { q with progress := q.progress + n, defers := 0, failures := 0 } := by
      rw [answeredRequest, if_neg hd, ← ha]
    rw [if_neg hd, kept, pieceEnded_of_active (by exact ha), if_neg nofun]
    rfl

theorem State.pieceDeferred_eq {q : Request} (v : State) (id : ReqId) (ha : q.state = .active) (n : Nat) :
    v.pieceDeferred id q = pieceEnded v id q.owner (answeredRequest q n .deferred) .deferred := by
  unfold State.pieceDeferred answeredRequest
  dsimp only
  by_cases hd : q.defers + 1 = 8
  · rw [if_pos hd, if_pos hd, State.failRequest_eq, pieceEnded_of_failed rfl, hd]
  · rw [if_neg hd, if_neg hd, pieceEnded_of_active (by exact ha), if_pos rfl]
    simp only [State.setRequest, inQueue, bne, beq_eq_decide, decide_not]

theorem State.pieceResult_answered {v : State} {id : ReqId} {q : Request} {o : ExchangeOutcome}
    (hq : v.request id = some q) (ha : q.state = .active) (ho : o = .ok ∨ o = .deferred ∨ o = .refused) (n : Nat) :
    v.pieceResult id n o = pieceEnded v id q.owner (answeredRequest q n o) o := by
  rw [State.pieceResult, hq]
  dsimp only
  rw [ha]
  dsimp only
  obtain rfl | rfl | rfl := ho
  · exact v.pieceOk_eq id ha n
  · exact v.pieceDeferred_eq id ha n
  · rw [pieceEnded_of_failed rfl]
    exact v.failRequest_eq id q .refused

theorem State.pieceResult_of_cancelling {v : State} {id : ReqId} {q : Request} (hq : v.request id = some q)
    (hc : q.state = .cancelling) (n : Nat) (o : ExchangeOutcome) :
    v.pieceResult id n o = cancelledAtEnd v id q := by
  rw [State.pieceResult, hq]
  dsimp only
  rw [hc]
  exact v.endCancelling_eq id q

theorem State.endPiece_answered (s : State) (id : ReqId) (n : Nat) (node : Node) {o : ExchangeOutcome}
    (ho : o.answered = true) : s.endPiece id n node o = (nodeAnswered s node none).pieceResult id n o := by
  have agree : s.orderShows id node o = false := by rw [State.orderShows, ho]; rfl
  rw [State.endPiece, agree, if_neg nofun, s.report_answered node ho]

theorem State.reported_of_piece {s : State} {x : Exchange} {id : ReqId} {kind : ReqKind} {offset n : Nat}
    (hp : x.poll = .piece id kind offset n) (o : ExchangeOutcome) : s.reported x o = s.endPiece id n x.node o := by
  rw [State.reported, hp]

theorem outOfQueue_congr {s t : State} (acyclic : t.acyclic = s.acyclic) (id : ReqId) (o : Option Request) :
    outOfQueue t id o = outOfQueue s id o := by
  unfold outOfQueue
  rw [acyclic]

theorem inQueue_congr {s t : State} (acyclic : t.acyclic = s.acyclic) (id : ReqId) (q : Request) :
    inQueue t id q = inQueue s id q := by
  unfold inQueue
  rw [acyclic]

theorem pieceEnded_congr {s v : State} (acyclic : v.acyclic = s.acyclic) (id : ReqId) (owner : Port) (q1 : Request)
    (o : ExchangeOutcome) : pieceEnded v id owner q1 o =
      { v with
        acyclic :=
          if q1.state ≠ .active then outOfQueue s id (some q1)
          else if o = .deferred then
            { inQueue s id q1 with
              queue := s.acyclic.queue.filter (· ≠ id) ++ [id], deferred := s.acyclic.deferred ++ [id] }
          else inQueue s id q1
        attn :=
          if q1.state = .done then v.attn.put owner ((v.attn.get owner).raise (.request id) .requestDone)
          else if q1.state = .failed then v.attn.put owner ((v.attn.get owner).raise (.request id) .requestFailed)
          else v.attn } := by
  unfold pieceEnded
  rw [outOfQueue_congr acyclic, inQueue_congr acyclic, acyclic]

theorem State.request_congr {s t : State} (acyclic : t.acyclic = s.acyclic) (id : ReqId) :
    t.request id = s.request id := by
  unfold State.request
  rw [acyclic]

/-- Settles O58: the outcome applied to an ACTIVE request, or the CANCELLING one freed. -/
theorem pieceAnswered : Obligations.PieceAnswered := by
  intro s x id kind offset n q o c m hs ends reaches hp hq ho
  have answered : o.answered = true := by rcases ho with rfl | rfl | rfl <;> rfl
  have exec_eq := State.exec_endsByReply ends reaches
  rw [State.ended_of_ne_probe (by rw [hp]; nofun)] at exec_eq
  refine ⟨_, s.endPlaced_payloadMem x c, ?_⟩
  generalize hu : { exchangeOver s c m .idle with
    store := { s.store with mem := s.payloadMem x.poll (endPayload x.poll c) } } = u at exec_eq ⊢
  have sched : u.sched = s.sched := by rw [← hu]; rfl
  have acyclic : u.acyclic = s.acyclic := by rw [← hu]; rfl
  intro v q1
  have kept : v.acyclic = s.acyclic := by simpa [v] using acyclic
  have request : v.request id = some q := (State.request_congr kept id).trans hq
  have ended : u.endExchange x o = movedOn (v.pieceResult id n o) := by
    rw [State.endExchange_movedOn (hs.of_sched sched), State.reported_of_piece hp, State.endPiece_answered _ _ _ _ answered]
  refine ⟨fun ha => ?_, fun hc => ?_⟩
  · have outcome : q1 = answeredRequest q n o := rfl
    rw [exec_eq, ended, State.pieceResult_answered request ha ho, pieceEnded_congr kept, ← outcome]
  · rw [exec_eq, ended, State.pieceResult_of_cancelling request hc]

end Sys2Proof.Machine
end

section
/-! PROOFS. The ends of probes (R86, R117, R119, R122, R126, R127, R133). -/

namespace Sys2Proof.Machine

/-- The probe list without an address: SCAN_DONE follows when that empties it with scan pending (R126, R127). -/
theorem State.probeRemoved_eq (v : State) (n : Node) :
    v.probeRemoved n =
      let left := v.acyclic.probeList.filter (· ≠ n)
      let done := left = [] ∧ v.acyclic.scanPending = true
      { v with
        acyclic := { v.acyclic with
          probeList := left, scanPending := if done then false else v.acyclic.scanPending }
        attn := told v (if done then Reason.scanDone.bit else 0) fun _ _ => 0 } := by
  have left : (v.acyclic.probeList.filter (· != n)) = v.acyclic.probeList.filter (fun k => decide (k ≠ n)) := by
    simp [bne, beq_eq_decide]
  unfold State.probeRemoved
  rw [left]
  dsimp only
  by_cases done : v.acyclic.probeList.filter (fun k => decide (k ≠ n)) = [] ∧ v.acyclic.scanPending = true
  · rw [if_pos done, if_pos done, if_pos done]
    generalize v.acyclic.probeList.filter (fun k => decide (k ≠ n)) = list
    have attn := State.attn_raiseBoth_told
      { v with acyclic := { v.acyclic with probeList := list, scanPending := false } } .scanDone
    exact State.eq_of_fields rfl (attn.trans (told_congr rfl _ _)) rfl rfl rfl rfl rfl rfl rfl rfl rfl rfl rfl
  · rw [if_neg done, if_neg done, if_neg done, told_nothing]

theorem State.reportUnansweredProbe_eq (v : State) (n : Node) :
    v.reportUnansweredProbe n =
      let new := (v.node n).state = .unknown
      { v with
        roster := if new then withNode v n { v.node n with state := .absent } else v.roster
        attn := told v (if new then Reason.rosterChanged.bit else 0) fun _ _ => 0 } := by
  unfold State.reportUnansweredProbe
  dsimp only
  by_cases new : (v.node n).state = .unknown
  · rw [if_pos new, if_pos new, if_pos new]
    generalize { v.node n with state := .absent } = e
    have attn := State.attn_raiseBoth_told (v.setNode n e) .rosterChanged
    exact State.eq_of_fields rfl (attn.trans (told_congr (State.attn_setNode v n e) _ _)) rfl rfl rfl rfl rfl rfl rfl rfl
      rfl rfl rfl
  · rw [if_neg new, if_neg new, if_neg new, told_nothing]

theorem State.reported_of_probe {s : State} {x : Exchange} (hp : x.poll = .probe) (o : ExchangeOutcome) :
    s.reported x o = s.endProbe x.node o := by
  rw [State.reported, hp]

theorem State.endProbe_answered (s : State) (n : Node) {o : ExchangeOutcome} (ho : o.answered = true) :
    s.endProbe n o =
      (nodeAnswered s n (if o = .ok then identityOf s.engine.identity else none)).probeRemoved n := by
  rw [State.endProbe, if_pos ho, State.reportAnswered_eq]

/-- An unanswered probe, the address removed. -/
theorem State.endProbe_unanswered (s : State) (n : Node) {o : ExchangeOutcome} (ho : o.answered = false) :
    s.endProbe n o =
      let left := s.acyclic.probeList.filter (· ≠ n)
      let done := left = [] ∧ s.acyclic.scanPending = true
      let new := (s.node n).state = .unknown
      { s with
        acyclic := { s.acyclic with
          probeList := left, scanPending := if done then false else s.acyclic.scanPending }
        roster := if new then withNode s n { s.node n with state := .absent } else s.roster
        attn := told s ((if new then Reason.rosterChanged.bit else 0) ||| if done then Reason.scanDone.bit else 0)
          fun _ _ => 0 } := by
  rw [State.endProbe, ho, if_neg nofun, State.reportUnansweredProbe_eq, State.probeRemoved_eq]
  dsimp only
  rw [told_told (s := s) (g := if (s.node n).state = .unknown then Reason.rosterChanged.bit else 0) (f := fun _ _ => 0)
    (by rfl), reasons_or_zero]

/-- A probe's reply lies in the identity holding alone. -/
theorem State.ended_of_probe {s : State} {x : Exchange} (hp : x.poll = .probe) (c : Instr) (m : Nat)
    (next : EngineState) : s.ended x c m next =
      let u := exchangeOver s c m next
      { u with engine := { u.engine with identity := heldIdentity s .probe (endPayload .probe c) } } := by
  have unplaced : s.payloadMem .probe (endPayload .probe c) = s.store.mem := Memory.writeAll_none _ _
  rw [State.ended, hp, unplaced]
  rfl

/-- A good reply to a probe with its identity in range (R86, Table 12-3). -/
theorem judgeReply_identity {x : Exchange} {payload : List Byte} (hp : x.poll = .probe) (hl : payload.length = 8)
    (inRange : 1 ≤ ((payload[2]?).getD 0).toNat ∧ ((payload[2]?).getD 0).toNat ≤ 16 ∧
      8 ≤ ((payload[3]?).getD 0).toNat ∧ ((payload[3]?).getD 0).toNat ≤ 128) :
    judgeReply x (replyBytes (byte (x.node.val + 1)) 0x21 1 [] payload) = .ok := by
  have size : payload.length ≤ 255 := by omega
  have echo : ([] : List Byte).length = (ownEcho x.poll).length := by rw [hp]; rfl
  have answers : headerAnswers x (replyBytes (byte (x.node.val + 1)) 0x21 1 [] payload) = true :=
    (headerAnswers_replyBytes echo).2 ⟨rfl, by rw [hp]; rfl, by decide, by rw [hp]; rfl⟩
  have code : (1 : Byte).toNat % 128 = 1 := by decide
  rw [judgeReply_replyBytes echo size, answers, code, if_neg (by decide),
    if_neg (by rw [hp]; simp [expectedPayload, acceptPayload, hl]), if_neg (by decide), if_neg (by decide),
    judgeContent_replyBytes echo (by rw [hp]; exact hl) size, hp]
  exact if_pos inRange

/-- Settles O60: the address leaves the list, and the report makes the node PRESENT, ABSENT or leaves it. -/
theorem probeEnd : Obligations.ProbeEnd := by
  intro s x hs hp
  refine ⟨fun c m next ends reaches => ?_, fun o c m ends reaches ho => ?_, ?_⟩
  · obtain ⟨o, ho, exec_eq⟩ := State.exec_endsUnanswered ends reaches
    rw [State.ended_of_probe hp] at exec_eq
    intro v new
    have ended : exec c s = .next (v.endExchange x o) := by
      rw [exec_eq]
      rfl
    have acyclic : v.acyclic = s.acyclic := rfl
    have roster : v.roster = s.roster := rfl
    have attn : v.attn = s.attn := rfl
    have node : v.node x.node = s.node x.node := rfl
    have once : v.EntriesOnce := hs
    clear_value v
    rw [ended, State.endExchange_movedOn once, State.reported_of_probe hp, State.endProbe_unanswered _ _ ho]
    dsimp only
    rw [acyclic, node, withNode_congr roster, roster, told_congr attn]
  · have exec_eq := State.exec_endsByReply ends reaches
    rw [State.ended_of_probe hp] at exec_eq
    have answered : o.answered = true := by rcases ho with rfl | rfl <;> rfl
    have unidentified : o ≠ .ok := by rcases ho with rfl | rfl <;> nofun
    intro v
    have ended : exec c s = .next (movedOn (v.probeRemoved x.node)) := by
      rw [exec_eq, State.endExchange_movedOn (by exact hs), State.reported_of_probe hp,
        State.endProbe_answered _ _ answered, if_neg unidentified]
      rfl
    have acyclic : v.acyclic = s.acyclic := by simp [v, exchangeOver]
    rw [ended, State.probeRemoved_eq]
    dsimp only
    rw [acyclic]
  · intro start identity gaps t1 t0 ch lp r4 r5 r6 r7 hx hi ch1 ch16 lp8 lp128 hg reaches bytes v
    have frame : bytes = replyBytes (byte (x.node.val + 1)) 0x21 1 [] [t1, t0, ch, lp, r4, r5, r6, r7] := rfl
    have echo : ([] : List Byte).length = (ownEcho x.poll).length := by rw [hp]; rfl
    have size : [t1, t0, ch, lp, r4, r5, r6, r7].length ≤ 255 := by simp
    have length : bytes.length = 14 := by rw [frame, length_replyBytes]; rfl
    have whole : replyFrame x.poll bytes = bytes := by rw [frame, replyFrame_replyBytes echo size]
    have content : replyPayload .probe bytes = [t1, t0, ch, lp, r4, r5, r6, r7] := by
      rw [← hp, frame, replyPayload_replyBytes echo size]
    have complete : replyComplete x.poll bytes = true := by rw [frame, replyComplete_replyBytes echo size]
    have ok : judgeReply x bytes = .ok := by rw [frame, judgeReply_identity hp (by rfl) (by exact ⟨ch1, ch16, lp8, lp128⟩)]
    have moment : start + 14 + gaps = replyEndMoment x.poll start bytes gaps := by
      rw [replyEndMoment, whole, complete, length]
      rfl
    have some_byte : bytes ≠ [] := by rw [frame, replyBytes_eq]; nofun
    have exec_eq := State.exec_replyEnd hx some_byte (by rw [whole, length]; exact hg) moment reaches
    have held : identityOf (heldIdentity s .probe [t1, t0, ch, lp, r4, r5, r6, r7]) = some identity := by
      rw [hi]
      exact if_pos ⟨ch1, ch16, lp8, lp128⟩
    rw [ok, State.ended_of_probe hp, endPayload, content] at exec_eq
    have ended : exec (.replyEnd bytes gaps) s = .next (movedOn (v.probeRemoved x.node)) := by
      rw [exec_eq, State.endExchange_movedOn (by exact hs), State.reported_of_probe hp,
        State.endProbe_answered _ _ rfl, if_pos rfl]
      dsimp only
      rw [held]
    have acyclic : v.acyclic = s.acyclic := by simp [v, exchangeOver]
    rw [ended, State.probeRemoved_eq]
    dsimp only
    rw [acyclic]

end Sys2Proof.Machine
end

section
/-! PROOFS. The cycle mark: what it leaves of each record and of the attention sets, and the lists it forms (R17, R21, R50,
R56, R63, R65, R66, R76, R94, R95, R125). -/

namespace Sys2Proof.Machine

/-! ### What a mark's actions on one record leave alone -/

/-- `u` has the nodes, the values and the reasons other than streams' as `s` has them. -/
structure State.MarksOnly (s u : State) : Prop where
  nodes : ∀ n, (u.node n).state = (s.node n).state ∧ (u.node n).identity = (s.node n).identity ∧
    (u.node n).failures = (s.node n).failures
  mem : u.store.mem = s.store.mem
  entries : ∀ p src, (∀ h, src ≠ .stream h) → (u.attn.get p).entry src = (s.attn.get p).entry src

theorem State.MarksOnly.refl (s : State) : s.MarksOnly s := ⟨fun _ => ⟨rfl, rfl, rfl⟩, rfl, fun _ _ _ => rfl⟩

theorem State.MarksOnly.trans {s t u : State} (h : s.MarksOnly t) (k : t.MarksOnly u) : s.MarksOnly u where
  nodes n :=
    have ⟨state, identity, failures⟩ := h.nodes n
    have ⟨state', identity', failures'⟩ := k.nodes n
    ⟨state'.trans state, identity'.trans identity, failures'.trans failures⟩
  mem := k.mem.trans h.mem
  entries p src hs := (k.entries p src hs).trans (h.entries p src hs)

theorem State.marksOnly_of_same {s u : State} (roster : u.roster = s.roster) (mem : u.store.mem = s.store.mem)
    (attn : u.attn = s.attn) : s.MarksOnly u :=
  ⟨fun n => by simp [State.node, roster], mem, fun p src _ => by rw [attn]⟩

theorem State.marksOnly_raise_stream (s : State) (p : Port) (h : Handle) (r : Reason) :
    s.MarksOnly (s.raise p (.stream h) r) :=
  ⟨fun _ => ⟨rfl, rfl, rfl⟩, rfl, fun q src hs => by
    rw [State.entry_raise, if_neg fun hc => hs h hc.2, reasons_or_zero]⟩

theorem State.marksOnly_retire (s : State) (h : Handle) (r : StreamRecord) : s.MarksOnly (s.retire h r) := by
  by_cases hc : r.state = .closing
  · rw [State.retire, if_pos hc]
    exact .refl s
  · cases hf : s.recordInFlight h with
    | true =>
      have left := State.leftClosing_retire hc hf
      exact State.marksOnly_of_same left.kept.2.2.2.2.2.1
        (by rw [left.store, State.mem_dropAmendment]) left.kept.2.1
    | false =>
      have freed := State.freedWhole_retire hc hf
      refine ⟨fun n => ?_, freed.mem, fun p src _ => by rw [freed.kept.2.1]⟩
      rw [State.node_of_roster freed.roster]
      split
      · next e => subst e; exact ⟨rfl, rfl, rfl⟩
      · exact ⟨rfl, rfl, rfl⟩

theorem State.marksOnly_expireLease (s : State) (h : Handle) : s.MarksOnly (s.expireLease h) := by
  cases hr : s.record h with
  | none =>
    rw [State.expireLease_of_none hr]
    exact .refl s
  | some r =>
    rw [State.expireLease_of_live hr]
    split
    · exact (s.marksOnly_retire h r).trans (State.marksOnly_raise_stream _ _ _ _)
    · exact .refl s

/-- The state of an amendment applied, before its owner is told. -/
def State.amendedAt (s : State) (h : Handle) (r : StreamRecord) (am : Amendment) : State :=
  (match am.blocks with
    | none => s.discharge r.params
    | some _ => (s.discharge r.params).releaseBlocks r.blocks).setRecord h (some (r.amended am))

theorem State.applyAmendment_eq (s : State) (h : Handle) (r : StreamRecord) (am : Amendment) :
    s.applyAmendment h r am = (s.amendedAt h r am).raise r.owner (.stream h) .amendApplied := rfl

theorem State.kept_amendedAt (s : State) (h : Handle) (r : StreamRecord) (am : Amendment) :
    (s.amendedAt h r am).roster = s.roster ∧ (s.amendedAt h r am).store.mem = s.store.mem ∧
    (s.amendedAt h r am).attn = s.attn := by
  unfold State.amendedAt
  split <;> simp [State.discharge]

theorem State.marksOnly_updRecord (s : State) (h : Handle) (f : StreamRecord → StreamRecord) :
    s.MarksOnly (s.updRecord h f) := by
  unfold State.updRecord
  split
  · exact State.marksOnly_of_same rfl rfl rfl
  · exact .refl s

theorem State.attn_updRecord (s : State) (h : Handle) (f : StreamRecord → StreamRecord) :
    (s.updRecord h f).attn = s.attn := by
  unfold State.updRecord
  split <;> rfl

theorem State.marksOnly_beforeExpiry (s : State) (h : Handle) (r : StreamRecord) : s.MarksOnly (s.beforeExpiry h r) := by
  refine State.MarksOnly.trans ?_ (State.marksOnly_updRecord _ h _)
  split
  · next am _ =>
    obtain ⟨roster, mem, attn⟩ := s.kept_amendedAt h r am
    rw [State.applyAmendment_eq]
    exact (State.marksOnly_of_same roster mem attn).trans (State.marksOnly_raise_stream _ _ _ _)
  · exact State.marksOnly_of_same rfl rfl rfl

theorem State.markRecord_of_none {s : State} {h : Handle} (hr : s.record h = none) : s.markRecord h = s := by
  simp [State.markRecord, hr]

theorem State.marksOnly_markRecord (s : State) (h : Handle) : s.MarksOnly (s.markRecord h) := by
  cases hr : s.record h with
  | none =>
    rw [State.markRecord_of_none hr]
    exact .refl s
  | some r =>
    rw [State.markRecord_of_live hr]
    exact (s.marksOnly_beforeExpiry h r).trans (State.marksOnly_expireLease _ h)

theorem State.marksOnly_foldl (l : List Handle) (s : State) : s.MarksOnly (l.foldl State.markRecord s) := by
  induction l generalizing s with
  | nil => exact .refl s
  | cons h l ih => exact (s.marksOnly_markRecord h).trans (ih _)

/-! ### What a mark leaves of one record (R17, R21, R50, R56) -/

theorem agedRecord_eq (r : StreamRecord) : r.aged = agedRecord r := by
  unfold StreamRecord.aged agedRecord
  cases hd : r.direction <;> simp [satInc]

/-- The record after a mark. -/
def markedRecord (o : Option StreamRecord) : Option StreamRecord :=
  o.bind fun r =>
    match r.amendment with
    | some am => some (agedRecord (amendedRecord r am))
    | none =>
      if r.leaseRemaining = some 1 then none
      else some (agedRecord { r with leaseRemaining := r.leaseRemaining.map (· - 1) })

/-- What a mark tells a port of a record. -/
def markBits (o : Option StreamRecord) (p : Port) : ReasonSet :=
  o.elim 0 fun r =>
    if p = r.owner then
      match r.amendment with
      | some _ => Reason.amendApplied.bit
      | none => if r.leaseRemaining = some 1 then Reason.expired.bit else 0
    else 0

/-- A mark's actions on a record touch no other record and tell of no other. -/
structure State.MarkedAt (s : State) (h : Handle) (u : State) : Prop where
  record : ∀ k, u.record k = if k = h then markedRecord (s.record h) else s.record k
  entry : ∀ p k, (u.attn.get p).entry (.stream k) =
    (s.attn.get p).entry (.stream k) ||| if k = h then markBits (s.record h) p else 0

theorem State.entry_beforeExpiry (s : State) (h : Handle) (r : StreamRecord) (p : Port) (k : Handle) :
    ((s.beforeExpiry h r).attn.get p).entry (.stream k) = (s.attn.get p).entry (.stream k) |||
      if p = r.owner ∧ k = h ∧ r.amendment ≠ none then Reason.amendApplied.bit else 0 := by
  unfold State.beforeExpiry
  rw [State.attn_updRecord]
  split
  · next am ha =>
    rw [State.applyAmendment_eq, State.entry_raise, (s.kept_amendedAt h r am).2.2]
    simp [ha]
  · next ha => simp [ha]

/-- The lease of a record that is not spent leaves it alone. -/
theorem State.expireLease_of_unspent {s : State} {h : Handle} {r : StreamRecord} (hr : s.record h = some r)
    (hl : r.leaseRemaining ≠ some 0) : s.expireLease h = s := by
  rw [State.expireLease_of_live hr, if_neg fun hc => hl hc.2.1]

theorem StreamRecord.LeaseOk.remaining_ne_zero {r : StreamRecord} (hr : r.LeaseOk) : r.leaseRemaining ≠ some 0 := by
  intro h0
  have pair := hr.pair
  rw [h0] at pair
  cases hl : r.params.lease with
  | none => rw [hl] at pair; exact pair
  | some l =>
    rw [hl] at pair
    obtain ⟨-, -, one, -⟩ := pair
    exact absurd one (by decide)

/-- Counted down, a lease is spent exactly when 1 remained. -/
theorem StreamRecord.LeaseOk.counted_spent {r : StreamRecord} (hr : r.LeaseOk) :
    r.leaseRemaining.map (· - 1) = some 0 ↔ r.leaseRemaining = some 1 := by
  have positive := hr.remaining_ne_zero
  cases hm : r.leaseRemaining with
  | none => simp
  | some m =>
    rw [hm] at positive
    have : m ≠ 0 := fun e => positive (by rw [e])
    simp only [Option.map_some, Option.some.injEq]
    omega

theorem StreamRecord.marked_of_amendment {r : StreamRecord} {am : Amendment} (ha : r.amendment = some am) :
    r.marked = agedRecord (amendedRecord r am) := by
  rw [StreamRecord.marked, ha, ← agedRecord_eq]
  rfl

theorem StreamRecord.marked_of_none {r : StreamRecord} (ha : r.amendment = none) :
    r.marked = agedRecord { r with leaseRemaining := r.leaseRemaining.map (· - 1) } := by
  have counted : r.marked = r.leaseCounted.aged := by rw [StreamRecord.marked, ha]
  rw [counted, agedRecord_eq]
  rfl

/-- A mark in RUNNING with no exchange in flight, on a record with a sound lease. -/
theorem State.markedAt_markRecord {s : State} (run : s.trunk.state = .running)
    (idle : s.engine.state.inFlight = none) (hs : s.LeasesFor none) (h : Handle) : s.MarkedAt h (s.markRecord h) := by
  cases hr : s.record h with
  | none =>
    rw [State.markRecord_of_none hr]
    exact ⟨fun k => by split <;> simp_all [markedRecord], fun p k => by simp [hr, markBits]⟩
  | some r =>
    have lease := hs.leases h r hr
    have unclosed : r.state ≠ .closing := fun hc => absurd (hs.closing h ⟨r, hr, hc⟩) nofun
    obtain ⟨here, there⟩ := s.replaced_beforeExpiry h r
    rw [State.markRecord_of_live hr]
    by_cases spent : r.amendment = none ∧ r.leaseRemaining = some 1
    · obtain ⟨ha, hm⟩ := spent
      have zero : r.marked.leaseRemaining = some 0 := by
        rw [StreamRecord.marked, ha]
        exact (r.leaseCounted.aged_leases).2.1.trans (lease.counted_spent.2 hm)
      have running : (s.beforeExpiry h r).trunk.state = .running := by
        rw [(s.apart_beforeExpiry h r).trunk]
        exact run
      have unserved : (s.beforeExpiry h r).recordInFlight h = false := by
        rw [State.recordInFlight_eq, (s.apart_beforeExpiry h r).engine, idle]
        rfl
      have alive : r.marked.state ≠ .closing := by rw [r.marked_state]; exact unclosed
      have freed := State.freedWhole_retire alive unserved
      have owner : r.marked.owner = r.owner := by
        rw [StreamRecord.marked_of_none ha]
        unfold agedRecord
        split <;> rfl
      rw [State.expireLease_of_live here, if_pos ⟨running, zero, alive⟩]
      refine ⟨fun k => ?_, fun p k => ?_⟩
      · rw [State.record_raise]
        split
        · next e =>
          rw [e, freed.replaced.1, hr]
          simp [markedRecord, ha, hm]
        · next e => rw [freed.replaced.2 k e, there k e]
      · rw [State.entry_raise, freed.kept.2.1, State.entry_beforeExpiry, hr, owner]
        by_cases hk : k = h <;> by_cases hp : p = r.owner <;> simp [hk, hp, ha, hm, markBits]
    · have unspent : r.marked.leaseRemaining ≠ some 0 := by
        cases ha : r.amendment with
        | some am =>
          rw [StreamRecord.marked, ha]
          dsimp only
          rw [((r.amended am).aged_leases).2.1, (r.amended_leases am).1]
          intro h0
          have := (lease.amended am 0 ha h0).1
          omega
        | none =>
          rw [StreamRecord.marked, ha]
          exact fun h0 => spent ⟨ha, lease.counted_spent.1 ((r.leaseCounted.aged_leases).2.1.symm.trans h0)⟩
      rw [State.expireLease_of_unspent here unspent]
      refine ⟨fun k => ?_, fun p k => ?_⟩
      · split
        · next e =>
          rw [e, here, hr]
          cases ha : r.amendment with
          | some am => simp [markedRecord, ha, StreamRecord.marked_of_amendment ha]
          | none =>
            have kept : r.leaseRemaining ≠ some 1 := fun hm => spent ⟨ha, hm⟩
            simp [markedRecord, ha, kept, StreamRecord.marked_of_none ha]
        · next e => exact there k e
      · rw [State.entry_beforeExpiry, hr]
        cases ha : r.amendment with
        | some am => by_cases hk : k = h <;> by_cases hp : p = r.owner <;> simp [hk, hp, ha, markBits]
        | none =>
          have kept : r.leaseRemaining ≠ some 1 := fun hm => spent ⟨ha, hm⟩
          simp [ha, kept, markBits]

end Sys2Proof.Machine
end

section
/-! PROOFS. The cycle mark: what it leaves of all records, and the cycle it opens (R17, R21, R50, R56, R63, R65, R66, R76,
R94, R95, R125). -/

namespace Sys2Proof.Machine

/-! ### All records at a mark -/

/-- A mark's actions on distinct records, each as it would be alone. -/
theorem State.markRecords_eq {l : List Handle} (hl : l.Nodup) {s : State} (run : s.trunk.state = .running)
    (idle : s.engine.state.inFlight = none) (hs : s.LeasesFor none) :
    (∀ k, (l.foldl State.markRecord s).record k = if k ∈ l then markedRecord (s.record k) else s.record k) ∧
    ∀ p k, ((l.foldl State.markRecord s).attn.get p).entry (.stream k) =
      (s.attn.get p).entry (.stream k) ||| if k ∈ l then markBits (s.record k) p else 0 := by
  induction l generalizing s with
  | nil => simp
  | cons h l ih =>
    obtain ⟨hh, hl⟩ := List.nodup_cons.1 hl
    have still := s.still_markRecord h
    have at_h := State.markedAt_markRecord run idle hs h
    obtain ⟨records, entries⟩ := ih hl (still.state.trans run) (by rw [still.engine, idle])
      (State.leasesFor_markRecord run idle hs)
    refine ⟨fun k => ?_, fun p k => ?_⟩
    · rw [List.foldl_cons, records, at_h.record]
      by_cases hk : k = h
      · simp [hk, hh]
      · simp [hk]
    · rw [List.foldl_cons, entries, at_h.entry, at_h.record]
      by_cases hk : k = h
      · simp [hk, hh]
      · simp [hk]

/-! ### The cycle opened (R63, R65, R76) -/

theorem State.attn_applyStaged_told (s : State) :
    s.applyStaged.attn = told s (if s.trunk.staged = none then 0 else Reason.configApplied.bit) fun _ _ => 0 := by
  unfold State.applyStaged
  cases hg : s.trunk.staged with
  | none => exact (told_nothing s).symm
  | some g => exact (State.attn_raiseBoth_told _ _).trans (told_congr rfl _ _)

theorem State.attn_openCycle (s : State) :
    s.openCycle.attn = told s ((if s.trunk.staged = none then 0 else Reason.configApplied.bit) |||
      if s.trunk.state = .syncing then Reason.trunkRunning.bit else 0) fun _ _ => 0 := by
  have staged := s.attn_applyStaged_told
  have state := s.state_applyStaged
  unfold State.openCycle
  dsimp only
  rw [state]
  by_cases hs : s.trunk.state = .syncing
  · rw [if_pos hs, if_pos hs]
    have raised := (State.attn_raiseBoth_told
      (s.applyStaged.updTrunk fun u => { u with state := .running, cycle := 0 }) .trunkRunning).trans
      (told_congr (State.attn_updTrunk _ _) _ _)
    exact raised.trans ((told_told staged).trans (by rw [reasons_or_zero]))
  · rw [if_neg hs, if_neg hs, reasons_or_zero]
    exact staged

theorem State.trunk_openCycle {s : State} (hs : s.trunk.state = .running ∨ s.trunk.state = .syncing) :
    s.openCycle.trunk = { afterStaging s.trunk with
      state := .running
      cycle := if s.trunk.state = .syncing then 0 else s.trunk.cycle + 1
      timer := some (afterStaging s.trunk).applied.c
      clock := 0, phase := .mark, guard := false } := by
  have trunk : s.applyStaged.trunk = afterStaging s.trunk := by rw [State.applyStaged_eq]
  have state : (afterStaging s.trunk).state = s.trunk.state := by unfold afterStaging; split <;> rfl
  have cycle : (afterStaging s.trunk).cycle = s.trunk.cycle := by unfold afterStaging; split <;> rfl
  unfold State.openCycle
  dsimp only
  rw [trunk, state]
  by_cases sync : s.trunk.state = .syncing
  · rw [if_pos sync, if_pos sync]
    simp [trunk]
  · rw [if_neg sync, if_neg sync, ← cycle]
    have run := hs.resolve_right sync
    simp [trunk, ← run, ← state]

theorem State.pins_openCycle (s : State) :
    s.openCycle.pins = { s.pins with
      tx := some (cycleMarkFrame s.openCycle.trunk.cycle.toNat s.openCycle.trunk.applied.c) } := by
  unfold State.openCycle
  dsimp only
  split <;> simp

/-- The records at a mark are marked, and the cycle mark's parts are those of the opened cycle. -/
def State.allMarked (s : State) : State := handles.foldl State.markRecord s.openCycle

theorem State.trunk_allMarked (s : State) : s.allMarked.trunk = s.openCycle.trunk :=
  foldl_keeps State.markRecord State.trunk (fun s h => by simp) _ _

theorem State.pins_allMarked (s : State) : s.allMarked.pins = s.openCycle.pins :=
  foldl_keeps State.markRecord State.pins (fun s h => by simp) _ _

theorem State.acyclic_allMarked (s : State) : s.allMarked.acyclic = s.acyclic :=
  (foldl_keeps State.markRecord State.acyclic (fun s h => by simp) _ _).trans (by simp)

theorem State.beginCycleMark_eq (s : State) : s.beginCycleMark = s.allMarked.formLists.intervalProbes := rfl

theorem State.exec_cycleMarkDue {s : State} (due : s.cycleMarkDue = true) (quiet : s.lineBusy = false) :
    exec .cycleMarkDue s = .next s.beginCycleMark := by
  show execCycleMarkDue s = _
  rw [execCycleMarkDue, if_neg (by simp [due]), if_neg (by simp [quiet])]

theorem State.record_openCycle (s : State) (h : Handle) : s.openCycle.record h = s.record h := by
  simp [State.record]

theorem State.record_of_table {s t : State} (table : t.table = s.table) (h : Handle) : t.record h = s.record h := by
  rw [State.record, State.record, table]

/-- What the mark leaves of each record and of its reasons. -/
theorem State.beginCycleMark_records {s : State} (hs : s.trunk.state = .running ∨ s.trunk.state = .syncing)
    (idle : s.engine.state.inFlight = none) (leases : s.LeasesSound) :
    (∀ k, s.beginCycleMark.record k = markedRecord (s.record k)) ∧
    ∀ p k, (s.beginCycleMark.attn.get p).entry (.stream k) =
      (s.attn.get p).entry (.stream k) ||| markBits (s.record k) p := by
  have sound : s.openCycle.LeasesFor none := by
    have before := State.leasesSound_iff.1 leases
    rw [idle] at before
    exact before.of_table (by simp)
  obtain ⟨records, entries⟩ := State.markRecords_eq (List.nodup_finRange 64) (State.state_openCycle hs)
    (by rw [State.engine_openCycle, idle]) sound
  have table : s.beginCycleMark.table = s.allMarked.table := by simp [State.beginCycleMark_eq]
  have attn : s.beginCycleMark.attn = s.allMarked.attn := by simp [State.beginCycleMark_eq]
  refine ⟨fun k => ?_, fun p k => ?_⟩
  · rw [State.record_of_table table, State.allMarked, handles, records, if_pos (List.mem_finRange k),
      State.record_openCycle]
  · rw [attn, State.allMarked, handles, entries, if_pos (List.mem_finRange k), State.record_openCycle,
      State.attn_openCycle, entry_told]
    simp [mergedBits]

/-- Settles O46: each record at the mark, and its owner's reasons. -/
theorem cycleMarkUpdatesRecords : Obligations.CycleMarkUpdatesRecords := by
  intro s due quiet idle leases
  obtain ⟨records, entries⟩ := State.beginCycleMark_records (State.state_of_cycleMarkDue due) idle leases
  refine ⟨_, State.exec_cycleMarkDue due quiet, fun h => ⟨fun free => ⟨?_, fun p => ?_⟩, fun r hr => ⟨fun p hp => ?_, ?_⟩⟩⟩
  · rw [records, free]
    rfl
  · rw [entries, free]
    exact reasons_or_zero _
  · rw [entries, hr]
    simp [markBits, hp]
  · have record := records h
    have entry := entries r.owner h
    rw [hr] at record entry
    cases ha : r.amendment with
    | some am => exact ⟨by simpa [markedRecord, ha] using record, by simpa [markBits, ha] using entry⟩
    | none =>
      dsimp only
      by_cases spent : r.leaseRemaining = some 1
      · rw [if_pos spent]
        exact ⟨by simpa [markedRecord, ha, spent] using record, by simpa [markBits, ha, spent] using entry⟩
      · rw [if_neg spent]
        exact ⟨by simpa [markedRecord, ha, spent] using record, by simpa [markBits, ha, spent] using entry⟩

end Sys2Proof.Machine
end

section
/-! PROOFS. The cycle that a mark opens: its number and frame, its due list, its probes (R63, R65, R66, R76, R94, R95,
R125). -/

namespace Sys2Proof.Machine

/-! ### The due list (R95) -/

theorem State.listed_iff {s : State} {cycle period : Nat} {h : Handle} :
    s.listed cycle period h = true ↔ ∃ r, s.record h = some r ∧ r.state = .active ∧ r.params.period = period ∧
      cycle % r.params.period = r.params.phase := by
  unfold State.listed
  cases s.record h with
  | none => simp
  | some r => simp [dueAt, and_assoc]

theorem State.mem_dueList (s : State) {cycle : Nat} {h : Handle} :
    h ∈ s.dueList cycle ↔ ∃ r, s.record h = some r ∧ r.state = .active ∧ r.params.period ∈ periods ∧
      cycle % r.params.period = r.params.phase := by
  simp only [State.dueList, List.mem_flatMap, List.mem_filter, State.listed_iff, handles, List.mem_finRange, true_and]
  constructor
  · rintro ⟨period, hp, r, hr, active, rfl, due⟩
    exact ⟨r, hr, active, hp, due⟩
  · rintro ⟨r, hr, active, hp, due⟩
    exact ⟨_, hp, r, hr, active, rfl, due⟩

theorem periods_rise : periods.Pairwise (· < ·) := by decide

/-- Shorter periods stand before longer ones, and equal ones by handle. -/
theorem State.dueList_ordered (s : State) (cycle : Nat) :
    (s.dueList cycle).Pairwise fun h k => ∀ r q, s.record h = some r → s.record k = some q →
      r.params.period < q.params.period ∨ r.params.period = q.params.period ∧ h < k := by
  have period {p : Nat} {h : Handle} {r : StreamRecord} (hh : h ∈ handles.filter (s.listed cycle p))
      (hr : s.record h = some r) : r.params.period = p := by
    obtain ⟨r', hr', -, hp, -⟩ := State.listed_iff.1 (List.mem_filter.1 hh).2
    rw [hr] at hr'
    rw [Option.some.inj hr', hp]
  refine List.pairwise_flatMap.2 ⟨fun p _ => ?_, periods_rise.imp fun {p p'} hp h hh k hk r q hr hq => .inl ?_⟩
  · refine ((List.pairwise_lt_finRange 64).filter _).imp_of_mem fun {h k} hh hk hlt r q hr hq => .inr ⟨?_, hlt⟩
    rw [period hh hr, period hk hq]
  · rwa [period hh hr, period hk hq]

/-! ### The probes at the interval (R125) -/

theorem State.acyclic_intervalProbes (s : State) :
    s.intervalProbes.acyclic = { s.acyclic with
      probeList := s.acyclic.probeList ++
        if s.trunk.cycle.toNat % s.trunk.applied.interval = 0 then
          nodes.filter fun n => decide ((s.node n).state = .lost ∧ n ∉ s.acyclic.probeList)
        else [] } := by
  unfold State.intervalProbes
  split
  · have pick : (nodes.filter fun n => (s.node n).state == .lost).filter
        (fun n => !s.acyclic.probeList.contains n) =
        nodes.filter fun n => decide ((s.node n).state = .lost ∧ n ∉ s.acyclic.probeList) := by
      rw [List.filter_filter]
      refine List.filter_congr fun n _ => ?_
      rw [Bool.eq_iff_iff]
      simp [and_comm]
    rw [← pick]
    rfl
  · rw [List.append_nil]

/-! ### The mark as a whole -/

theorem State.marksOnly_allMarked (s : State) : s.openCycle.MarksOnly s.allMarked :=
  State.marksOnly_foldl handles s.openCycle

theorem State.sched_formLists (s : State) : s.formLists.sched =
    ⟨s.dueList s.trunk.cycle.toNat, [], (s.dueList s.trunk.cycle.toNat).map fun h => ⟨h, 0, .waiting⟩⟩ := rfl

theorem State.node_of_sameRoster {s t : State} (roster : t.roster = s.roster) (n : Node) : t.node n = s.node n := by
  rw [State.node, State.node, roster]

theorem State.node_openCycle (s : State) (n : Node) : s.openCycle.node n = s.node n :=
  State.node_of_sameRoster (by simp) n

/-- What the lists formed after the records were marked leave of the marked state. -/
theorem State.beginCycleMark_kept (s : State) :
    s.beginCycleMark.attn = s.allMarked.attn ∧ s.beginCycleMark.table = s.allMarked.table ∧
    s.beginCycleMark.store = s.allMarked.store ∧ s.beginCycleMark.trunk = s.openCycle.trunk ∧
    s.beginCycleMark.roster = s.allMarked.roster ∧ s.beginCycleMark.pins = s.openCycle.pins ∧
    s.beginCycleMark.sched = s.allMarked.formLists.sched := by
  rw [← s.trunk_allMarked, ← s.pins_allMarked, s.beginCycleMark_eq]
  generalize s.allMarked = u
  simp

/-- The probe list at the mark: the nodes stand as they stood before it. -/
theorem State.acyclic_beginCycleMark (s : State) :
    s.beginCycleMark.acyclic = { s.acyclic with
      probeList := s.acyclic.probeList ++
        if s.openCycle.trunk.cycle.toNat % s.openCycle.trunk.applied.interval = 0 then
          nodes.filter fun n => decide ((s.node n).state = .lost ∧ n ∉ s.acyclic.probeList)
        else [] } := by
  have state (n : Node) : (s.allMarked.formLists.node n).state = (s.node n).state := by
    rw [State.node_of_sameRoster (s := s.allMarked) (by simp), (s.marksOnly_allMarked.nodes n).1,
      s.node_openCycle]
  have acyclic : s.allMarked.formLists.acyclic = s.acyclic := by
    rw [← s.acyclic_allMarked]
    simp
  have trunk : s.allMarked.formLists.trunk = s.openCycle.trunk := by
    rw [← s.trunk_allMarked]
    simp
  rw [State.beginCycleMark_eq, State.acyclic_intervalProbes, acyclic, trunk]
  simp only [state]

/-- What the mark tells: the staged configuration applied, the trunk running, and what each record's owner hears. -/
theorem State.entry_beginCycleMark (s : State) (p : Port) (src : Source) (hs : ∀ h, src ≠ .stream h) :
    (s.beginCycleMark.attn.get p).entry src = (s.attn.get p).entry src |||
      mergedBits ((if s.trunk.staged = none then 0 else Reason.configApplied.bit) |||
        if s.trunk.state = .syncing then Reason.trunkRunning.bit else 0) (fun _ _ => 0) p src := by
  rw [s.beginCycleMark_kept.1, s.marksOnly_allMarked.entries p src hs, s.attn_openCycle, entry_told]

/-- Settles O45: the cycle opened, its lists formed of the marked records. -/
theorem cycleMarkOpensCycle : Obligations.CycleMarkOpensCycle := by
  intro s due quiet
  refine ⟨_, State.exec_cycleMarkDue due quiet, ?_⟩
  intro u cycle
  have state := State.state_of_cycleMarkDue due
  have opened : s.openCycle.trunk = { u with
      state := .running, cycle := cycle, timer := some u.applied.c, clock := 0, phase := .mark, guard := false } :=
    State.trunk_openCycle state
  obtain ⟨attn, table, store, trunk, roster, pins, sched⟩ := s.beginCycleMark_kept
  obtain ⟨ports, arbiter, engine, freeIndex, pending⟩ := s.frame_beginCycleMark
  have lists : s.beginCycleMark.sched = ⟨s.allMarked.dueList cycle.toNat, [],
      (s.allMarked.dueList cycle.toNat).map fun h => ⟨h, 0, .waiting⟩⟩ := by
    rw [sched, State.sched_formLists, s.trunk_allMarked, opened]
  have records := State.record_of_table table
  refine ⟨trunk.trans opened, ?_, engine, fun h => ?_, ?_, by rw [lists], by rw [lists], ?_, fun p => ?_,
    fun p id => ?_, fun n => ?_, ?_, ports, arbiter, freeIndex, pending⟩
  · rw [pins, State.pins_openCycle, opened]
    rfl
  · rw [lists, records]
    dsimp only
    rw [State.mem_dueList]
  · simp only [lists, records]
    exact s.allMarked.dueList_ordered _
  · rw [s.acyclic_beginCycleMark, opened]
    rfl
  · rw [s.entry_beginCycleMark p .global nofun, BitVec.or_assoc]
    rfl
  · rw [s.entry_beginCycleMark p (.request id) nofun]
    exact reasons_or_zero _
  · have node := s.marksOnly_allMarked.nodes n
    rw [State.node_of_sameRoster roster]
    rwa [s.node_openCycle] at node
  · rw [store, s.marksOnly_allMarked.mem]
    simp

end Sys2Proof.Machine
end

section
/-! PROOFS. The loss of a node: what it does to each record and each request, and what moving the phases on leaves of them
(R8, R109, R118, R121, R143). -/

namespace Sys2Proof.Machine

/-! ### The records of a lost node (R8) -/

/-- A record that the loss of a node suspends. -/
def lostWith (n : Node) (q : StreamRecord) : Prop := q.node = n ∧ q.state = .active

/-- A record after the loss of a node. -/
def lostRecord (n : Node) (q : StreamRecord) : StreamRecord :=
  if q.node = n ∧ q.state = .active then { q with state := .suspended } else q

/-- What the loss of a node tells a port of a record. -/
def lostBits (n : Node) (o : Option StreamRecord) (p : Port) : ReasonSet :=
  o.elim 0 fun q => if p = q.owner ∧ q.node = n ∧ q.state = .active then Reason.suspended.bit else 0

/-- A record stands on the due list or on the retry list. -/
def State.onLists (s : State) (k : Handle) : Prop := k ∈ s.sched.due ∨ k ∈ s.sched.retry

/-- `u` is `s` with the records of a list suspended where they are of the node. -/
structure State.SuspendsIn (s : State) (n : Node) (l : List Handle) (u : State) : Prop where
  record : ∀ k, u.record k = if k ∈ l then (s.record k).map (lostRecord n) else s.record k
  entry : ∀ p src, (u.attn.get p).entry src = (s.attn.get p).entry src |||
    mergedBits 0 (fun p k => if k ∈ l then lostBits n (s.record k) p else 0) p src
  lists : ∀ k, u.onLists k → s.onLists k ∧ ∀ q, k ∈ l → s.record k = some q → ¬ lostWith n q
  load : u.table.load = s.table.load

theorem State.suspendRecord_of_unlost {s : State} {n : Node} {h : Handle}
    (unlost : ∀ q, s.record h = some q → ¬ lostWith n q) : State.suspendRecord n s h = s := by
  unfold State.suspendRecord
  cases hq : s.record h with
  | none => rfl
  | some q => exact if_neg (unlost q hq)

theorem State.suspendRecord_of_lost {s : State} {n : Node} {h : Handle} {q : StreamRecord} (hq : s.record h = some q)
    (lost : lostWith n q) : State.suspendRecord n s h =
      ((s.setRecord h (some { q with state := .suspended })).excuse h).raise q.owner (.stream h) .suspended := by
  unfold State.suspendRecord
  rw [hq]
  exact if_pos lost

theorem lostRecord_of_lost {n : Node} {q : StreamRecord} (lost : lostWith n q) :
    lostRecord n q = { q with state := .suspended } := if_pos lost

theorem lostRecord_of_unlost {n : Node} {q : StreamRecord} (unlost : ¬ lostWith n q) : lostRecord n q = q :=
  if_neg unlost

theorem lostBits_of_unlost {n : Node} {o : Option StreamRecord} (unlost : ∀ q, o = some q → ¬ lostWith n q) (p : Port) :
    lostBits n o p = 0 := by
  cases o with
  | none => rfl
  | some q => exact if_neg fun hc => unlost q rfl hc.2

theorem map_lostRecord_of_unlost {n : Node} {o : Option StreamRecord} (unlost : ∀ q, o = some q → ¬ lostWith n q) :
    o.map (lostRecord n) = o := by
  cases o with
  | none => rfl
  | some q => exact congrArg some (lostRecord_of_unlost (unlost q rfl))

/-- With no record of the list to suspend, nothing changes. -/
theorem State.suspendsIn_self {s : State} {n : Node} {l : List Handle}
    (unlost : ∀ k, k ∈ l → ∀ q, s.record k = some q → ¬ lostWith n q) : s.SuspendsIn n l s where
  record k := by
    split
    · next hk => rw [map_lostRecord_of_unlost (unlost k hk)]
    · rfl
  entry p src := by
    cases src with
    | global | request => exact (reasons_or_zero _).symm
    | stream k =>
      have none_told : (if k ∈ l then lostBits n (s.record k) p else 0) = 0 := by
        split
        · next hk => exact lostBits_of_unlost (unlost k hk) p
        · rfl
      rw [mergedBits, none_told, reasons_or_zero]
  lists k hk := ⟨hk, fun q hl => unlost k hl q⟩
  load := rfl

theorem State.onLists_excuse {s : State} {h k : Handle} (hk : (s.excuse h).onLists k) : s.onLists k ∧ k ≠ h := by
  simp only [State.onLists, State.excuse, List.mem_filter, bne_iff_ne] at hk
  exact ⟨hk.imp And.left And.left, hk.elim And.right And.right⟩

/-- One record suspended. -/
theorem State.suspendsIn_suspendRecord (s : State) (n : Node) (h : Handle) :
    s.SuspendsIn n [h] (State.suspendRecord n s h) := by
  by_cases lost : ∃ q, s.record h = some q ∧ lostWith n q
  · obtain ⟨q, hq, lost⟩ := lost
    rw [State.suspendRecord_of_lost hq lost]
    generalize hq' : { q with state := StreamState.suspended } = q'
    have left : lostRecord n q = q' := (lostRecord_of_lost lost).trans hq'
    refine ⟨fun k => ?_, fun p src => ?_, fun k hk => ?_, by simp⟩
    · show (s.setRecord h (some q')).record k = _
      rw [State.record_setRecord]
      by_cases e : k = h
      · simp [e, hq, left]
      · simp [e]
    · rw [State.entry_raise]
      cases src with
      | global | request => simp [mergedBits]
      | stream k =>
        by_cases e : k = h
        · obtain ⟨hn, ha⟩ := lost
          by_cases hp : p = q.owner <;> simp [mergedBits, lostBits, e, hq, hn, ha, hp]
        · simp [mergedBits, e]
    · obtain ⟨hk, other⟩ := State.onLists_excuse (s := s.setRecord h (some q')) (h := h) (k := k) hk
      exact ⟨hk, fun _ hl => absurd (List.mem_singleton.1 hl) other⟩
  · have unlost : ∀ q, s.record h = some q → ¬ lostWith n q := fun q hq hl => lost ⟨q, hq, hl⟩
    rw [State.suspendRecord_of_unlost unlost]
    exact State.suspendsIn_self fun k hk => by rwa [List.mem_singleton.1 hk]

/-- Distinct records suspended, each as it would be alone. -/
theorem State.suspendsIn_foldl {l : List Handle} (hl : l.Nodup) (s : State) (n : Node) :
    s.SuspendsIn n l (l.foldl (State.suspendRecord n) s) := by
  induction l generalizing s with
  | nil => exact State.suspendsIn_self nofun
  | cons h l ih =>
    obtain ⟨hh, hl⟩ := List.nodup_cons.1 hl
    rw [List.foldl_cons]
    have one := s.suspendsIn_suspendRecord n h
    generalize State.suspendRecord n s h = t at one ⊢
    have rest := ih hl t
    generalize l.foldl (State.suspendRecord n) t = u at rest ⊢
    have other {k : Handle} (hk : k ≠ h) : t.record k = s.record k := by
      rw [one.record, if_neg (by simpa using hk)]
    refine ⟨fun k => ?_, fun p src => ?_, fun k hk => ?_, rest.load.trans one.load⟩
    · rw [rest.record, one.record]
      by_cases e : k = h
      · simp [e, hh]
      · simp [e]
    · rw [rest.entry, one.entry]
      cases src with
      | global | request => simp [mergedBits]
      | stream k =>
        by_cases e : k = h
        · simp [mergedBits, e, hh]
        · simp [mergedBits, e, other e]
    · obtain ⟨hk, unlost⟩ := rest.lists k hk
      obtain ⟨hk, first⟩ := one.lists k hk
      refine ⟨hk, fun q hm hq => ?_⟩
      by_cases e : k = h
      · exact first q (by simp [e]) hq
      · exact unlost q ((List.mem_cons.1 hm).resolve_left e) ((other e).trans hq)

end Sys2Proof.Machine
end

section
/-! PROOFS. The requests of a lost node, and the loss of a node as a whole (R8, R118, R121, R143). -/

namespace Sys2Proof.Machine

/-! ### The requests of a lost node (R143) -/

/-- A request that the loss of a node fails. -/
def lostWithRequest (n : Node) (q : Request) : Prop := q.node = n ∧ (q.state = .queued ∨ q.state = .active)

/-- A request after the loss of a node. -/
def lostRequest (n : Node) (q : Request) : Request :=
  if q.node = n ∧ (q.state = .queued ∨ q.state = .active) then { q with state := .failed, reason := some .nodeLost }
  else q

/-- What the loss of a node tells a port of a request. -/
def lostRequestBits (n : Node) (o : Option Request) (p : Port) : ReasonSet :=
  o.elim 0 fun q =>
    if p = q.owner ∧ q.node = n ∧ (q.state = .queued ∨ q.state = .active) then Reason.requestFailed.bit else 0

/-- What a merge of reasons brings a source of a port, when requests alone have any. -/
def requestBits (request : Port → ReqId → ReasonSet) (p : Port) : Source → ReasonSet
  | .global => 0
  | .request id => request p id
  | .stream _ => 0

/-- `u` is `s` with the requests of a list failed where they are to the node. -/
structure State.LosesIn (s : State) (n : Node) (l : List ReqId) (u : State) : Prop where
  request : ∀ id, u.request id = if id ∈ l then (s.request id).map (lostRequest n) else s.request id
  entry : ∀ p src, (u.attn.get p).entry src = (s.attn.get p).entry src |||
    requestBits (fun p id => if id ∈ l then lostRequestBits n (s.request id) p else 0) p src
  queue : ∀ id, id ∈ u.acyclic.queue → id ∈ s.acyclic.queue ∧
    ∀ q, id ∈ l → s.request id = some q → ¬ lostWithRequest n q
  probeList : u.acyclic.probeList = s.acyclic.probeList

theorem State.loseRequest_of_unlost {s : State} {n : Node} {id : ReqId}
    (unlost : ∀ q, s.request id = some q → ¬ lostWithRequest n q) : State.loseRequest n s id = s := by
  unfold State.loseRequest
  cases hq : s.request id with
  | none => rfl
  | some q => exact if_neg (unlost q hq)

theorem State.loseRequest_of_lost {s : State} {n : Node} {id : ReqId} {q : Request} (hq : s.request id = some q)
    (lost : lostWithRequest n q) : State.loseRequest n s id = s.failRequest id q .nodeLost := by
  unfold State.loseRequest
  rw [hq]
  exact if_pos lost

theorem lostRequest_of_lost {n : Node} {q : Request} (lost : lostWithRequest n q) :
    lostRequest n q = { q with state := .failed, reason := some .nodeLost } := if_pos lost

theorem lostRequest_of_unlost {n : Node} {q : Request} (unlost : ¬ lostWithRequest n q) : lostRequest n q = q :=
  if_neg unlost

theorem lostRequestBits_of_unlost {n : Node} {o : Option Request} (unlost : ∀ q, o = some q → ¬ lostWithRequest n q)
    (p : Port) : lostRequestBits n o p = 0 := by
  cases o with
  | none => rfl
  | some q => exact if_neg fun hc => unlost q rfl hc.2

theorem map_lostRequest_of_unlost {n : Node} {o : Option Request} (unlost : ∀ q, o = some q → ¬ lostWithRequest n q) :
    o.map (lostRequest n) = o := by
  cases o with
  | none => rfl
  | some q => exact congrArg some (lostRequest_of_unlost (unlost q rfl))

/-- With no request of the list to fail, nothing changes. -/
theorem State.losesIn_self {s : State} {n : Node} {l : List ReqId}
    (unlost : ∀ id, id ∈ l → ∀ q, s.request id = some q → ¬ lostWithRequest n q) : s.LosesIn n l s where
  request id := by
    split
    · next hl => rw [map_lostRequest_of_unlost (unlost id hl)]
    · rfl
  entry p src := by
    cases src with
    | global | stream => exact (reasons_or_zero _).symm
    | request id =>
      have none_told : (if id ∈ l then lostRequestBits n (s.request id) p else 0) = 0 := by
        split
        · next hl => exact lostRequestBits_of_unlost (unlost id hl) p
        · rfl
      rw [requestBits, none_told, reasons_or_zero]
  queue id hq := ⟨hq, fun q hl => unlost id hl q⟩
  probeList := rfl

theorem State.request_failRequest (s : State) (id k : ReqId) (q : Request) (why : FailReason) :
    (s.failRequest id q why).request k =
      if k = id then some { q with state := .failed, reason := some why } else s.request k := by
  show ((s.leaveQueue id).setRequest id (some { q with state := .failed, reason := some why })).request k = _
  split
  · next e =>
    subst e
    exact State.request_setRequest_same _ _ _
  · next e => exact State.request_setRequest_other _ _ _ _ e

theorem State.queue_failRequest (s : State) (id : ReqId) (q : Request) (why : FailReason) :
    (s.failRequest id q why).acyclic.queue = s.acyclic.queue.filter (· ≠ id) := by
  rw [State.failRequest_eq]
  rfl

theorem State.entry_failRequest (s : State) (id : ReqId) (q : Request) (why : FailReason) (p : Port) (src : Source) :
    ((s.failRequest id q why).attn.get p).entry src =
      (s.attn.get p).entry src ||| if p = q.owner ∧ src = .request id then Reason.requestFailed.bit else 0 := by
  rw [State.failRequest, State.entry_raise]
  rfl

theorem State.probeList_failRequest (s : State) (id : ReqId) (q : Request) (why : FailReason) :
    (s.failRequest id q why).acyclic.probeList = s.acyclic.probeList := rfl

/-- One request failed. -/
theorem State.losesIn_loseRequest (s : State) (n : Node) (id : ReqId) :
    s.LosesIn n [id] (State.loseRequest n s id) := by
  by_cases lost : ∃ q, s.request id = some q ∧ lostWithRequest n q
  · obtain ⟨q, hq, lost⟩ := lost
    rw [State.loseRequest_of_lost hq lost]
    refine ⟨fun k => ?_, fun p src => ?_, fun k hk => ?_, s.probeList_failRequest _ _ _⟩
    · rw [State.request_failRequest, ← lostRequest_of_lost lost]
      by_cases e : k = id
      · simp [e, hq]
      · simp [e]
    · rw [State.entry_failRequest]
      cases src with
      | global | stream => simp [requestBits]
      | request k =>
        by_cases e : k = id
        · obtain ⟨hn, ha⟩ := lost
          by_cases hp : p = q.owner <;> simp [requestBits, lostRequestBits, e, hq, hn, ha, hp]
        · simp [requestBits, e]
    · rw [State.queue_failRequest, List.mem_filter] at hk
      refine ⟨hk.1, fun _ hl => ?_⟩
      simp [List.mem_singleton.1 hl] at hk
  · have unlost : ∀ q, s.request id = some q → ¬ lostWithRequest n q := fun q hq hl => lost ⟨q, hq, hl⟩
    rw [State.loseRequest_of_unlost unlost]
    exact State.losesIn_self fun k hk => by rwa [List.mem_singleton.1 hk]

/-- Distinct requests failed, each as it would be alone. -/
theorem State.losesIn_foldl {l : List ReqId} (hl : l.Nodup) (s : State) (n : Node) :
    s.LosesIn n l (l.foldl (State.loseRequest n) s) := by
  induction l generalizing s with
  | nil => exact State.losesIn_self nofun
  | cons id l ih =>
    obtain ⟨hid, hl⟩ := List.nodup_cons.1 hl
    rw [List.foldl_cons]
    have one := s.losesIn_loseRequest n id
    generalize State.loseRequest n s id = t at one ⊢
    have rest := ih hl t
    generalize l.foldl (State.loseRequest n) t = u at rest ⊢
    have other {k : ReqId} (hk : k ≠ id) : t.request k = s.request k := by
      rw [one.request, if_neg (by simpa using hk)]
    refine ⟨fun k => ?_, fun p src => ?_, fun k hk => ?_, rest.probeList.trans one.probeList⟩
    · rw [rest.request, one.request]
      by_cases e : k = id
      · simp [e, hid]
      · simp [e]
    · rw [rest.entry, one.entry]
      cases src with
      | global | stream => simp [requestBits]
      | request k =>
        by_cases e : k = id
        · simp [requestBits, e, hid]
        · simp [requestBits, e, other e]
    · obtain ⟨hk, unlost⟩ := rest.queue k hk
      obtain ⟨hk, first⟩ := one.queue k hk
      refine ⟨hk, fun q hm hq => ?_⟩
      by_cases e : k = id
      · exact first q (by simp [e]) hq
      · exact unlost q ((List.mem_cons.1 hm).resolve_left e) ((other e).trans hq)

/-! ### The loss as a whole (R118, R121) -/

/-- What the loss of a node tells, with what it tells of no record and no request. -/
def lossBits (s : State) (n : Node) (global : ReasonSet) (p : Port) : Source → ReasonSet
  | .global => global
  | .request id => lostRequestBits n (s.request id) p
  | .stream k => lostBits n (s.record k) p

/-- `u` has the records and requests of `s` as the loss of a node leaves them. -/
structure State.LosesNode (s : State) (n : Node) (global : ReasonSet) (u : State) : Prop where
  record : ∀ k, u.record k = (s.record k).map (lostRecord n)
  request : ∀ id, u.request id = (s.request id).map (lostRequest n)
  entry : ∀ p src, (u.attn.get p).entry src = (s.attn.get p).entry src ||| lossBits s n global p src
  lists : ∀ k, u.onLists k → s.onLists k ∧ ∀ q, s.record k = some q → ¬ lostWith n q
  queue : ∀ id, id ∈ u.acyclic.queue → id ∈ s.acyclic.queue ∧ ∀ q, s.request id = some q → ¬ lostWithRequest n q
  probeList : u.acyclic.probeList = s.acyclic.probeList
  load : u.table.load = s.table.load

theorem State.losesNode_nodeLost (s : State) (n : Node) : s.LosesNode n 0 (s.nodeLost n) := by
  have streams := State.suspendsIn_foldl (List.nodup_finRange 64) s n
  have acyclic : (handles.foldl (State.suspendRecord n) s).acyclic = s.acyclic :=
    foldl_keeps _ State.acyclic (fun s h => by simp) _ _
  unfold State.nodeLost
  rw [← handles] at streams
  generalize handles.foldl (State.suspendRecord n) s = t at streams acyclic ⊢
  have requests := State.losesIn_foldl (List.nodup_finRange 8) t n
  have table : (reqIds.foldl (State.loseRequest n) t).table = t.table :=
    foldl_keeps _ State.table (fun s id => by simp) _ _
  have sched : (reqIds.foldl (State.loseRequest n) t).sched = t.sched :=
    foldl_keeps _ State.sched (fun s id => by simp) _ _
  rw [← reqIds] at requests
  generalize reqIds.foldl (State.loseRequest n) t = u at requests table sched ⊢
  have same_request := State.request_congr acyclic
  have all_handles (k : Handle) : k ∈ handles := List.mem_finRange k
  have all_ids (id : ReqId) : id ∈ reqIds := List.mem_finRange id
  refine ⟨fun k => ?_, fun id => ?_, fun p src => ?_, fun k hk => ?_, fun id hid => ?_, ?_, ?_⟩
  · rw [State.record_of_table table, streams.record, if_pos (all_handles k)]
  · rw [requests.request, if_pos (all_ids id), same_request]
  · rw [requests.entry, streams.entry]
    cases src <;> simp [requestBits, mergedBits, lossBits, all_handles, all_ids, same_request]
  · obtain ⟨hk, unlost⟩ := streams.lists k (by rwa [State.onLists, sched] at hk)
    exact ⟨hk, fun q => unlost q (all_handles k)⟩
  · obtain ⟨hid, unlost⟩ := requests.queue id hid
    rw [acyclic] at hid
    exact ⟨hid, fun q hq => unlost q (all_ids id) ((same_request id).trans hq)⟩
  · rw [requests.probeList, acyclic]
  · rw [table, streams.load]

/-- The report that loses a node: its entry LOST, ROSTER_CHANGED, and the loss of all that it serves. -/
theorem State.losesNode_report {s : State} {n : Node} {o : ExchangeOutcome} (ho : o.answered = false)
    (hl : s.lossDue n = true) : s.LosesNode n Reason.rosterChanged.bit (s.report n o) ∧
      (s.report n o).roster =
        withNode s n { s.node n with failures := min ((s.node n).failures + 1) 15, state := .lost } := by
  rw [State.report, ho, State.reportUnanswered, hl, if_neg nofun, if_pos rfl]
  generalize he : { s.node n with failures := min ((s.node n).failures + 1) 15, state := NodeState.lost } = e
  have attn := (State.attn_raiseBoth_told (s.setNode n e) .rosterChanged).trans
    (told_congr (State.attn_setNode _ _ _) _ _)
  have table : ((s.setNode n e).raiseBoth .rosterChanged).table = s.table := by simp
  have acyclic : ((s.setNode n e).raiseBoth .rosterChanged).acyclic = s.acyclic := by simp
  have sched : ((s.setNode n e).raiseBoth .rosterChanged).sched = s.sched := by simp
  have roster : ((s.setNode n e).raiseBoth .rosterChanged).roster = withNode s n e := by
    rw [State.roster_raiseBoth, State.roster_setNode]
    rfl
  generalize (s.setNode n e).raiseBoth .rosterChanged = t at attn table acyclic sched roster ⊢
  have loss := t.losesNode_nodeLost n
  have records := State.record_of_table table
  have requests := State.request_congr acyclic
  refine ⟨⟨fun k => ?_, fun id => ?_, fun p src => ?_, fun k hk => ?_, fun id hid => ?_, ?_, ?_⟩, ?_⟩
  · rw [loss.record, records]
  · rw [loss.request, requests]
  · rw [loss.entry, attn, entry_told]
    cases src <;> simp [lossBits, mergedBits, records, requests]
  · have kept := loss.lists k hk
    rwa [records, State.onLists, sched] at kept
  · have kept := loss.queue id hid
    rwa [requests, acyclic] at kept
  · rw [loss.probeList, acyclic]
  · rw [loss.load, table]
  · rw [← roster]
    simp

end Sys2Proof.Machine
end

section
/-! PROOFS. What the end of an exchange and the phases moving on leave of a lost node's records and requests (R8, R15, R109,
R121, R142, R143). -/

namespace Sys2Proof.Machine

/-! ### What may follow a loss -/

/-- `t` follows `s` with some records freed, with nothing but counters of ACTIVE records changed elsewhere, nothing
told but of ACTIVE records, and the requests kept but for one. -/
structure State.MovesOn (s : State) (freed : Handle → Bool) (own : Option ReqId) (t : State) : Prop where
  gone : ∀ k, freed k = true → t.record k = none
  record : ∀ k, freed k = false → (∀ q, s.record k = some q → q.state ≠ .active) → t.record k = s.record k
  state : ∀ k, freed k = false → (t.record k).map StreamRecord.state = (s.record k).map StreamRecord.state
  entry : ∀ p src, (∀ k q, src = .stream k → s.record k = some q → q.state ≠ .active) →
    (t.attn.get p).entry src = (s.attn.get p).entry src
  lists : ∀ k, t.onLists k → s.onLists k
  request : ∀ id, own ≠ some id → t.request id = s.request id
  queue : ∀ id, id ∈ t.acyclic.queue → id ∈ s.acyclic.queue
  probeList : t.acyclic.probeList = s.acyclic.probeList

/-- Nothing freed and every request kept. -/
def State.Onward (s t : State) : Prop := s.MovesOn (fun _ => false) none t

section Steps

variable {s t u : State}

theorem State.onward_of_kept (table : t.table = s.table) (attn : t.attn = s.attn) (sched : t.sched = s.sched)
    (requests : t.acyclic.requests = s.acyclic.requests) (queue : t.acyclic.queue = s.acyclic.queue)
    (probeList : t.acyclic.probeList = s.acyclic.probeList) : s.Onward t where
  gone := nofun
  record k _ _ := State.record_of_table table k
  state k _ := by rw [State.record_of_table table]
  entry p src _ := by rw [attn]
  lists k hk := by rwa [State.onLists, sched] at hk
  request id _ := by rw [State.request, State.request, requests]
  queue id hid := by rwa [queue] at hid
  probeList := probeList

/-- A record of another state than ACTIVE stays of it. -/
theorem State.MovesOn.inactive {freed : Handle → Bool} {own : Option ReqId} (h : s.MovesOn freed own t) {k : Handle}
    (hk : ∀ q, s.record k = some q → q.state ≠ .active) (q : StreamRecord) (hq : t.record k = some q) :
    q.state ≠ .active := by
  cases hf : freed k with
  | true =>
    rw [h.gone k hf] at hq
    cases hq
  | false => exact hk q ((h.record k hf hk).symm.trans hq)

/-- What is told of no record stays told as it was. -/
theorem State.MovesOn.entry_of_other {freed : Handle → Bool} {own : Option ReqId} (h : s.MovesOn freed own t) (p : Port)
    {src : Source} (hs : ∀ k, src ≠ .stream k) : (t.attn.get p).entry src = (s.attn.get p).entry src :=
  h.entry p src fun k _ e => absurd e (hs k)

/-- What moves on after some records were freed and one request changed. -/
theorem State.MovesOn.onward {freed : Handle → Bool} {own : Option ReqId} (h : s.MovesOn freed own t)
    (k : t.Onward u) : s.MovesOn freed own u where
  gone i hf := by
    rw [k.record i rfl fun q hq => absurd ((h.gone i hf).symm.trans hq) nofun, h.gone i hf]
  record i hf hi := (k.record i rfl (h.inactive hi)).trans (h.record i hf hi)
  state i hf := (k.state i rfl).trans (h.state i hf)
  entry p src hs := (k.entry p src fun i q e => h.inactive (fun q' => hs i q' e) q).trans (h.entry p src hs)
  lists i hi := h.lists i (k.lists i hi)
  request id ho := (k.request id nofun).trans (h.request id ho)
  queue id hid := h.queue id (k.queue id hid)
  probeList := k.probeList.trans h.probeList

theorem State.onward_refl (s : State) : s.Onward s := State.onward_of_kept rfl rfl rfl rfl rfl rfl

end Steps

/-! ### The phases moved on (R98, R106, R109, R126, R133) -/

theorem State.countMiss_of_inactive {s : State} {h : Handle} (hq : ∀ q, s.record h = some q → q.state ≠ .active) :
    s.countMiss h = s := by
  unfold State.countMiss
  cases hr : s.record h with
  | none => rfl
  | some q => exact if_neg (hq q hr)

/-- A miss counted turns a record's counters alone, and tells of the record alone. -/
theorem State.countMiss_of_active {s : State} {h : Handle} {q : StreamRecord} (hq : s.record h = some q)
    (ha : q.state = .active) : ∃ q', q'.state = q.state ∧ (s.countMiss h).record h = some q' ∧
      (∀ k, k ≠ h → (s.countMiss h).record k = s.record k) ∧
      ∀ p src, src ≠ .stream h → ((s.countMiss h).attn.get p).entry src = (s.attn.get p).entry src := by
  unfold State.countMiss
  rw [hq]
  dsimp only
  rw [if_pos ha]
  generalize hq' : { q with counters := { q.counters with missed := satInc q.counters.missed,
                                                          consecutive := satInc q.counters.consecutive } } = q'
  have state : q'.state = q.state := by rw [← hq']
  refine ⟨q', state, ?_⟩
  split
  · refine ⟨?_, fun k hk => ?_, fun p src hs => ?_⟩
    · rw [State.record_raise, State.record_setRecord_same]
    · rw [State.record_raise, State.record_setRecord_other _ _ _ _ hk]
    · rw [State.entry_raise, if_neg fun hc => hs hc.2, reasons_or_zero]
      rfl
  · exact ⟨State.record_setRecord_same _ _ _, fun k hk => State.record_setRecord_other _ _ _ _ hk, fun p src _ => rfl⟩

theorem State.onward_countMiss (s : State) (h : Handle) : s.Onward (s.countMiss h) := by
  by_cases active : ∃ q, s.record h = some q ∧ q.state = .active
  · obtain ⟨q, hq, ha⟩ := active
    obtain ⟨q', state, here, there, told⟩ := State.countMiss_of_active hq ha
    have sched : (s.countMiss h).sched = s.sched := by simp
    have acyclic : (s.countMiss h).acyclic = s.acyclic := by simp
    generalize s.countMiss h = t at *
    have other {k : Handle} (hk : ∀ q, s.record k = some q → q.state ≠ .active) : k ≠ h := by
      rintro rfl
      exact hk q hq ha
    refine ⟨nofun, fun k _ hk => there k (other hk), fun k _ => ?_, fun p src hs => told p src ?_,
      fun k hk => by rwa [State.onLists, sched] at hk, fun id _ => State.request_congr acyclic id,
      fun id hid => by rwa [acyclic] at hid, by rw [acyclic]⟩
    · by_cases e : k = h
      · rw [e, here, hq, Option.map_some, Option.map_some, state]
      · rw [there k e]
    · rintro rfl
      exact hs h q rfl hq ha
  · rw [State.countMiss_of_inactive fun q hq ha => active ⟨q, hq, ha⟩]
    exact s.onward_refl

theorem State.onward_settle (s : State) : s.Onward s.settle := by
  have each (l : List ServiceEntry) (t : State) : t.Onward
      (l.foldl (fun t e => if e.disposition = .unserved then t.countMiss e.handle else t) t) := by
    induction l generalizing t with
    | nil => exact t.onward_refl
    | cons e l ih =>
      rw [List.foldl_cons]
      split
      · exact (t.onward_countMiss e.handle).onward (ih _)
      · exact ih t
  exact each s.sched.entries s

theorem State.onward_endCyclic (s : State) : s.Onward s.endCyclic :=
  State.onward_of_kept (by simp) (by simp) (by simp) (by simp) (by simp) (by simp)

theorem State.onward_endRetry (s : State) : s.Onward s.endRetry := by
  unfold State.endRetry
  split
  · exact s.onward_settle.onward (State.onward_of_kept (by simp) (by simp) (by simp) rfl rfl rfl)
  · exact s.onward_refl

theorem State.onward_endProbes (s : State) : s.Onward s.endProbes :=
  State.onward_of_kept (by simp) (by simp) (by simp) (by simp) (by simp) (by simp)

theorem State.onward_endPieces (s : State) : s.Onward s.endPieces :=
  State.onward_of_kept (by simp) (by simp) (by simp) (by simp) (by simp) (by simp)

theorem State.onward_advance (s : State) : s.Onward s.advance := by
  unfold State.advance
  split
  · exact s.onward_refl
  · exact ((s.onward_endCyclic.onward (State.onward_endRetry _)).onward (State.onward_endProbes _)).onward
      (State.onward_endPieces _)

/-! ### The record or the request of the exchange freed (R15, R142) -/

theorem State.movesOn_closedAtEnd {s u : State} {h : Handle} {r : StreamRecord} (closed : closedAtEnd s h r u) :
    s.MovesOn (fun k => decide (k = h)) none u := by
  obtain ⟨eq, -, -⟩ := closed
  have record (k : Handle) : u.record k = if k = h then none else s.record k := by
    rw [eq, ← s.record_setRecord h k none]
    rfl
  have attn : u.attn = s.attn := by rw [eq]; simp
  have acyclic : u.acyclic = s.acyclic := by rw [eq]; simp
  have sched : u.sched = unlisted s h := by rw [eq]
  have other {k : Handle} (hk : decide (k = h) = false) : u.record k = s.record k := by
    rw [record, if_neg (of_decide_eq_false hk)]
  refine ⟨fun k hk => by rw [record, if_pos (of_decide_eq_true hk)], fun k hk _ => other hk,
    fun k hk => by rw [other hk], fun p src _ => by rw [attn], fun k hk => ?_,
    fun id _ => State.request_congr acyclic id, fun id hid => by rwa [acyclic] at hid, by rw [acyclic]⟩
  rw [State.onLists, sched, ← State.sched_excuse] at hk
  exact (State.onLists_excuse hk).1

theorem State.movesOn_cancelledAtEnd (s : State) (id : ReqId) (q : Request) :
    s.MovesOn (fun _ => false) (some id) (cancelledAtEnd s id q) := by
  have table : (cancelledAtEnd s id q).table = s.table := by simp [cancelledAtEnd]
  have attn : (cancelledAtEnd s id q).attn = s.attn := by simp [cancelledAtEnd]
  have sched : (cancelledAtEnd s id q).sched = s.sched := by simp [cancelledAtEnd]
  have acyclic : (cancelledAtEnd s id q).acyclic = outOfQueue s id none := rfl
  refine ⟨nofun, fun k _ _ => State.record_of_table table k, fun k _ => by rw [State.record_of_table table],
    fun p src _ => by rw [attn], fun k hk => by rwa [State.onLists, sched] at hk, fun k hk => ?_, fun k hk => ?_,
    by rw [acyclic]; rfl⟩
  · have other : k ≠ id := fun e => hk (by rw [e])
    rw [← s.request_setRequest_other id k none other, State.request, State.request, acyclic, State.acyclic_setRequest]
    rfl
  · rw [acyclic] at hk
    exact List.mem_of_mem_filter hk

/-! ### The loss as the statements tell it (R8, R121, R143) -/

/-- After the report of the loss, and what follows it. -/
theorem lossTold_of_movesOn {s v t : State} {n : Node} {freed : Handle → Bool} {own : Option ReqId}
    (loss : s.LosesNode n Reason.rosterChanged.bit v) (moved : v.MovesOn freed own t) : lossTold s t n freed own := by
  have inactive {k : Handle} {q : StreamRecord} (hq : s.record k = some q) (hn : q.node = n) :
      ∀ q', v.record k = some q' → q'.state ≠ .active := by
    intro q' hq'
    rw [loss.record, hq, Option.map_some, Option.some.injEq] at hq'
    subst hq'
    unfold lostRecord
    split
    · nofun
    · next unlost => exact fun ha => unlost ⟨hn, ha⟩
  refine ⟨fun p => ?_, fun k q hq hn => ⟨?_, fun ha => ⟨?_, ?_, ?_⟩⟩, fun k => ?_, fun id hid => ?_,
    fun id q hid hq hn ha => ⟨fun hm => ?_, ?_⟩, moved.probeList.trans loss.probeList⟩
  · rw [moved.entry_of_other p (src := .global) nofun, loss.entry]
    rfl
  · cases hf : freed k with
    | true => rw [moved.gone k hf, if_pos rfl]
    | false =>
      rw [moved.record k hf (inactive hq hn), loss.record, hq, if_neg nofun, Option.map_some, lostRecord]
      simp only [hn, true_and]
  · exact fun hk => (loss.lists k (moved.lists k (.inl hk))).2 q hq ⟨hn, ha⟩
  · exact fun hk => (loss.lists k (moved.lists k (.inr hk))).2 q hq ⟨hn, ha⟩
  · rw [moved.entry q.owner (.stream k) (fun k' q' e => by cases e; exact inactive hq hn q'), loss.entry, lossBits, hq]
    simp [lostBits, hn, ha]
  · cases hf : freed k with
    | true => rw [moved.gone k hf, if_pos rfl, Option.map_none]
    | false =>
      rw [moved.state k hf, loss.record, if_neg nofun, Option.map_map]
      congr 1
      funext q
      simp only [Function.comp_apply, lostRecord]
      split <;> rfl
  · rw [moved.request id hid, loss.request]
    rfl
  · exact (loss.queue id (moved.queue id hm)).2 q hq ⟨hn, ha⟩
  · rw [moved.entry_of_other q.owner (src := .request id) nofun, loss.entry, lossBits, hq]
    simp [lostRequestBits, hn, ha]

/-- Where two states differ in a request alone and in what is told of it, a loss of a node tells of both alike. -/
theorem lossTold_congr {s s' t : State} {n : Node} {freed : Handle → Bool} {own : Option ReqId}
    (records : ∀ k, s'.record k = s.record k) (requests : ∀ id, own ≠ some id → s'.request id = s.request id)
    (entries : ∀ p src, (∀ id, own = some id → src ≠ .request id) →
      (s'.attn.get p).entry src = (s.attn.get p).entry src)
    (probeList : s'.acyclic.probeList = s.acyclic.probeList) (h : lossTold s' t n freed own) :
    lossTold s t n freed own := by
  obtain ⟨global, streams, states, kept, failed, probes⟩ := h
  refine ⟨fun p => ?_, fun k q hq hn => ?_, fun k => ?_, fun id hid => ?_, fun id q hid hq hn hs => ?_, ?_⟩
  · rw [global, entries p .global nofun]
  · have stream := streams k q ((records k).trans hq) hn
    rwa [entries _ (.stream k) nofun] at stream
  · rw [states, records]
  · rw [kept id hid, requests id hid]
  · have request := failed id q hid ((requests id hid).trans hq) hn hs
    rwa [entries _ (.request id) fun id' ho e => hid (by cases e; exact ho)] at request
  · rw [probes, probeList]

end Sys2Proof.Machine
end

section
/-! PROOFS. A stream poll or a piece that loses its node, and a piece with no answer (R8, R15, R118, R121, R138, R139, R142,
R143, R162, R164). -/

namespace Sys2Proof.Machine

/-! ### What the phases moving on leave -/

theorem State.load_countMiss (s : State) (h : Handle) : (s.countMiss h).table.load = s.table.load := by
  unfold State.countMiss
  split
  · rfl
  · split
    · dsimp only
      split <;> rfl
    · rfl

theorem State.load_settle (s : State) : s.settle.table.load = s.table.load :=
  foldl_keeps _ (fun s => s.table.load) (fun s e => by split <;> [exact s.load_countMiss _; rfl]) _ _

theorem State.load_endRetry (s : State) : s.endRetry.table.load = s.table.load := by
  unfold State.endRetry
  split
  · simp [State.load_settle]
  · rfl

theorem State.load_advance (s : State) : s.advance.table.load = s.table.load := by
  unfold State.advance
  split
  · rfl
  · simp [State.load_endRetry]

/-! ### A stream poll that loses its node (R8, R15, R118, R121) -/

theorem State.serviceResult_of_suspended {s : State} {h : Handle} {r : StreamRecord} (hr : s.record h = some r)
    (hs : r.state = .suspended) (p : Poll) (o : ExchangeOutcome) : s.serviceResult h p o = s := by
  rw [State.serviceResult, hr]
  dsimp only
  rw [hs]

theorem State.lossDue_congr {s t : State} (roster : t.roster = s.roster)
    (threshold : t.trunk.applied.threshold = s.trunk.applied.threshold) (n : Node) : t.lossDue n = s.lossDue n := by
  rw [State.lossDue, State.lossDue, State.node_of_sameRoster roster, threshold]

/-- The node's report and the record's outcome, when the report loses the node of an ACTIVE record. -/
theorem State.endExchange_lost {u : State} {x : Exchange} {h : Handle} {r : StreamRecord} {o : ExchangeOutcome}
    (hh : x.poll.handle? = some h) (hr : u.record h = some r) (ha : r.state = .active) (hn : r.node = x.node)
    (ho : o.answered = false) (hl : u.lossDue x.node = true) : u.endExchange x o = (u.report x.node o).advance := by
  have lost : (u.report x.node o).record h = some { r with state := .suspended } := by
    rw [(State.losesNode_report ho hl).1.record, hr, Option.map_some, lostRecord_of_lost ⟨hn, ha⟩]
  rw [State.endExchange_eq, State.reported_of_handle? hh, State.serviceResult_of_suspended lost rfl]

/-- The same for a CLOSING record. -/
theorem State.endExchange_lost_closing {u : State} {x : Exchange} {h : Handle} {r : StreamRecord} {o : ExchangeOutcome}
    (hh : x.poll.handle? = some h) (hr : u.record h = some r) (hc : r.state = .closing)
    (ho : o.answered = false) (hl : u.lossDue x.node = true) :
    u.endExchange x o = ((u.report x.node o).endClosing h r).advance := by
  have kept : (u.report x.node o).record h = some r := by
    rw [(State.losesNode_report ho hl).1.record, hr, Option.map_some, lostRecord_of_unlost (by simp [lostWith, hc])]
  rw [State.endExchange_eq, State.reported_of_handle? hh, State.serviceResult_of_closing kept hc]

/-- Settles O57: the report loses the node, and its record's outcome is none, or it is freed. -/
theorem nodeLoss : Obligations.NodeLoss := by
  intro s x h r c m next ends reaches hh hr hs hn hl
  obtain ⟨o, ho, exec_eq⟩ := State.exec_endsUnanswered ends reaches
  rw [State.ended_of_ne_probe (Poll.ne_probe_of_handle? hh)] at exec_eq
  generalize hu : { exchangeOver s c m next with
    store := { s.store with mem := s.payloadMem x.poll (endPayload x.poll c) } } = u at exec_eq
  have table : u.table = s.table := by rw [← hu]; rfl
  have attn : u.attn = s.attn := by rw [← hu]; rfl
  have acyclic : u.acyclic = s.acyclic := by rw [← hu]; rfl
  have roster : u.roster = s.roster := by rw [← hu]; rfl
  have ports : u.ports = s.ports := by rw [← hu]; rfl
  have arbiter : u.arbiter = s.arbiter := by rw [← hu]; rfl
  have free : u.store.free = s.store.free := by rw [← hu]
  have applied : u.trunk.applied = s.trunk.applied := by rw [← hu]; rfl
  clear hu
  have node := State.node_of_sameRoster roster
  have record : u.record h = some r := (State.record_of_table table h).trans hr
  have due : u.lossDue x.node = true := (State.lossDue_congr roster (by rw [applied]) x.node).trans hl
  obtain ⟨loss, lost_roster⟩ := State.losesNode_report ho due
  have lost_node (k : Node) := State.node_of_roster lost_roster k
  have tell {t : State} {freed : Handle → Bool} (moved : (u.report x.node o).MovesOn freed none t) :
      lossTold s t x.node freed none :=
    lossTold_congr (State.record_of_table table) (fun id _ => State.request_congr acyclic id)
      (fun p src _ => by rw [attn]) (by rw [acyclic]) (lossTold_of_movesOn loss moved)
  refine ⟨_, exec_eq, ?_⟩
  intro freed
  obtain ha | hc := hs
  · have unfreed : freed = fun _ => false := by
      funext k
      simp [freed, ha]
    rw [State.endExchange_lost hh record ha hn ho due]
    have kept (k : Node) := State.node_of_sameRoster (s := u.report x.node o) (t := (u.report x.node o).advance)
      (by simp) k
    refine ⟨?_, fun k hk => ?_, ?_, fun _ => ⟨?_, ?_, ?_, ?_⟩, fun hc => ?_⟩
    · rw [kept, lost_node, if_pos rfl, node, ha]
      rfl
    · rw [kept, lost_node, if_neg hk, node]
    · rw [unfreed]
      exact tell (State.onward_advance _)
    · simp [free]
    · rw [State.load_advance, loss.load, table]
    · simp [ports]
    · simp [arbiter]
    · rw [ha] at hc
      cases hc
  · have freed_eq : freed = fun k => decide (k = h) := by
      funext k
      simp [freed, hc]
    have before : (u.report x.node o).trunk.applied = s.trunk.applied := by simp [applied]
    have before_ports : (u.report x.node o).ports = s.ports := by simp [ports]
    have before_arbiter : (u.report x.node o).arbiter = s.arbiter := by simp [arbiter]
    have before_free : (u.report x.node o).store.free = s.store.free := by simp [free]
    rw [State.endExchange_lost_closing hh record hc ho due]
    have closed := (u.report x.node o).closedAtEnd_endClosing h r
    generalize (u.report x.node o).endClosing h r = w at closed ⊢
    have kept (k : Node) := State.node_of_sameRoster (s := w) (t := w.advance) (by simp) k
    have told := tell ((State.movesOn_closedAtEnd closed).onward w.onward_advance)
    obtain ⟨eq, load, blocks⟩ := closed
    have w_roster := congrArg State.roster eq
    have w_node (k : Node) := State.node_of_roster w_roster k
    refine ⟨?_, fun k hk => ?_, ?_, fun ha => ?_, fun _ => ⟨fun k => ?_, fun b => ?_, ?_, ?_⟩⟩
    · rw [kept, w_node, hn, if_pos rfl, lost_node, if_pos rfl, node, hc]
      rfl
    · rw [kept, w_node, hn, if_neg hk, lost_node, if_neg hk, node]
    · rw [freed_eq]
      exact told
    · rw [hc] at ha
      cases ha
    · rw [State.load_advance, load k, loss.load, table, before]
    · rw [(State.frame_advance w).2.2.1, blocks, before_free]
    · rw [(State.frame_advance w).1, eq]
      exact (unparked_congr before_ports before_arbiter _).1
    · rw [(State.frame_advance w).2.1, eq]
      exact (unparked_congr before_ports before_arbiter _).2

end Sys2Proof.Machine
end

section
/-! PROOFS. A piece with no answer, its node lost with it or not (R118, R121, R138, R139, R142, R143, R162, R164). -/

namespace Sys2Proof.Machine

/-! ### Its node kept (R118, R138, R139, R142) -/

theorem State.orderShows_of_kept {s : State} {n : Node} (hl : s.lossDue n = false) (id : ReqId) (o : ExchangeOutcome) :
    s.orderShows id n o = false := by
  rw [State.orderShows, hl, Bool.and_false, Bool.false_and]

theorem State.orderShows_of_cancelling {s : State} {id : ReqId} {q : Request} (hq : s.request id = some q)
    (hc : q.state = .cancelling) (n : Node) (o : ExchangeOutcome) : s.orderShows id n o = false := by
  rw [State.orderShows, hq]
  dsimp only
  rw [hc]
  exact Bool.and_false _

/-- Where the order of report and outcome does not show, the report comes first. -/
theorem State.endPiece_of_agree {s : State} {id : ReqId} {n : Node} {o : ExchangeOutcome}
    (agree : s.orderShows id n o = false) (count : Nat) :
    s.endPiece id count n o = (s.report n o).pieceResult id count o := by
  rw [State.endPiece, agree, if_neg nofun]

theorem State.pieceResult_unanswered {v : State} {id : ReqId} {q : Request} {o : ExchangeOutcome}
    (hq : v.request id = some q) (ha : q.state = .active) (ho : o.answered = false) (n : Nat) :
    v.pieceResult id n o = v.pieceUnanswered id q := by
  rw [State.pieceResult, hq]
  dsimp only
  rw [ha]
  cases o with
  | timeout | crcError | badLength | overlong => rfl
  | ok | duplicate | deferred | refused => cases ho

theorem State.pieceUnanswered_of_third {q : Request} (v : State) (id : ReqId) (hf : q.failures = 2) :
    v.pieceUnanswered id q =
      { v with
        acyclic := outOfQueue v id (some { q with failures := 3, state := .failed, reason := some .noAnswer })
        attn := v.attn.put q.owner ((v.attn.get q.owner).raise (.request id) .requestFailed) } := by
  unfold State.pieceUnanswered
  dsimp only
  rw [hf, if_pos rfl, State.failRequest_eq]

theorem State.pieceUnanswered_of_earlier {q : Request} (v : State) (id : ReqId) (hf : q.failures ≠ 2) :
    v.pieceUnanswered id q = { v with acyclic := inQueue v id { q with failures := q.failures + 1 } } := by
  unfold State.pieceUnanswered
  exact if_neg fun h => hf (by dsimp only at h; omega)

/-! ### Its node lost (R121, R143) -/

/-- `w` is `s` at the end of a piece, with its request and what is told of it as may be. -/
structure State.EndedBut (s : State) (id : ReqId) (next : EngineState) (mem : Memory) (w : State) : Prop where
  ports : w.ports = s.ports
  arbiter : w.arbiter = s.arbiter
  table : w.table = s.table
  store : w.store = { s.store with mem := mem }
  engine : w.engine = { s.engine with state := next }
  roster : w.roster = s.roster
  applied : w.trunk.applied = s.trunk.applied
  request : ∀ k, k ≠ id → w.request k = s.request k
  entry : ∀ p src, src ≠ .request id → (w.attn.get p).entry src = (s.attn.get p).entry src
  probeList : w.acyclic.probeList = s.acyclic.probeList

/-- What the loss of its node and what follows it leave, but of the piece's own request. -/
structure State.LostAround (s : State) (n : Node) (id : ReqId) (next : EngineState) (mem : Memory) (t : State) :
    Prop where
  engine : t.engine = { s.engine with state := next }
  node : t.node n = { s.node n with state := .lost, failures := min ((s.node n).failures + 1) 15 }
  others : ∀ o, o ≠ n → t.node o = s.node o
  store : t.store = { s.store with mem := mem }
  load : t.table.load = s.table.load
  told : lossTold s t n (fun _ => false) (some id)

section Loss

variable {s w t : State} {n : Node} {id : ReqId} {next : EngineState} {mem : Memory} {o : ExchangeOutcome}

theorem State.EndedBut.losesNode (h : s.EndedBut id next mem w) (ho : o.answered = false) (hl : s.lossDue n = true) :
    w.LosesNode n Reason.rosterChanged.bit (w.report n o) ∧ (w.report n o).roster =
      withNode w n { w.node n with failures := min ((w.node n).failures + 1) 15, state := .lost } :=
  State.losesNode_report ho ((State.lossDue_congr h.roster (by rw [h.applied]) n).trans hl)

/-- The report of the loss, and what follows that keeps the nodes, the values, the engine and the Load Map. -/
theorem State.EndedBut.lostAround (h : s.EndedBut id next mem w) (ho : o.answered = false) (hl : s.lossDue n = true)
    (moved : (w.report n o).MovesOn (fun _ => false) (some id) t) (engine : t.engine = (w.report n o).engine)
    (store : t.store = (w.report n o).store) (load : t.table.load = (w.report n o).table.load)
    (roster : t.roster = (w.report n o).roster) : s.LostAround n id next mem t := by
  obtain ⟨loss, lost⟩ := h.losesNode ho hl
  have node (k : Node) : t.node k = if k = n then
      { s.node n with failures := min ((s.node n).failures + 1) 15, state := .lost } else s.node k := by
    rw [State.node_of_roster (roster.trans lost), State.node_of_sameRoster h.roster,
      State.node_of_sameRoster h.roster]
  refine ⟨?_, ?_, fun k hk => ?_, ?_, ?_, ?_⟩
  · rw [engine, (w.frame_report n o).2.2.2.2.1, h.engine]
  · rw [node, if_pos rfl]
  · rw [node, if_neg hk]
  · rw [store, (w.frame_report n o).2.2.1, h.store]
  · rw [load, loss.load, h.table]
  · exact lossTold_congr (State.record_of_table h.table) (fun k hk => h.request k fun e => hk (by rw [e]))
      (fun p src hs => h.entry p src (hs id rfl)) h.probeList (lossTold_of_movesOn loss moved)

/-- The phases moved on after the report of the loss. -/
theorem State.EndedBut.lostAround_advance (h : s.EndedBut id next mem w) (ho : o.answered = false)
    (hl : s.lossDue n = true) : s.LostAround n id next mem (w.report n o).advance := by
  have onward := (w.report n o).onward_advance
  refine h.lostAround ho hl ⟨onward.gone, onward.record, onward.state, onward.entry, onward.lists,
    fun k _ => onward.request k nofun, onward.queue, onward.probeList⟩ ?_ ?_ (State.load_advance _) ?_ <;> simp

/-- The CANCELLING request of the piece freed after the report, and the phases moved on. -/
theorem State.EndedBut.lostAround_cancelled (h : s.EndedBut id next mem w) (ho : o.answered = false)
    (hl : s.lossDue n = true) (q : Request) :
    s.LostAround n id next mem (cancelledAtEnd (w.report n o) id q).advance := by
  refine h.lostAround ho hl (((w.report n o).movesOn_cancelledAtEnd id q).onward (State.onward_advance _)) ?_ ?_ ?_ ?_
  · simp [cancelledAtEnd]
  · simp [cancelledAtEnd]
  · rw [State.load_advance]
    simp [cancelledAtEnd]
  · simp [cancelledAtEnd]

/-- What the loss leaves of the piece's own request, when the outcome came before it or leaves it alone. -/
theorem State.EndedBut.own (h : s.EndedBut id next mem w) (ho : o.answered = false) (hl : s.lossDue n = true) :
    (w.report n o).advance.ports = s.ports ∧ (w.report n o).advance.arbiter = s.arbiter ∧
    (w.report n o).advance.request id = (w.request id).map (lostRequest n) ∧
    (∀ p, ((w.report n o).advance.attn.get p).entry (.request id) =
      (w.attn.get p).entry (.request id) ||| lostRequestBits n (w.request id) p) ∧
    (id ∈ (w.report n o).advance.acyclic.queue →
      id ∈ w.acyclic.queue ∧ ∀ q, w.request id = some q → ¬ lostWithRequest n q) := by
  obtain ⟨loss, -⟩ := h.losesNode ho hl
  have onward := (w.report n o).onward_advance
  refine ⟨?_, ?_, ?_, fun p => ?_, fun hid => loss.queue id (onward.queue id hid)⟩
  · simp [h.ports]
  · simp [h.arbiter]
  · rw [onward.request id nofun, loss.request]
  · rw [onward.entry_of_other p (src := .request id) nofun, loss.entry]
    rfl

end Loss

end Sys2Proof.Machine
end

section
/-! PROOFS. A piece with no answer: each order of the node's loss and the request's outcome (R138, R139, R142, R143). -/

namespace Sys2Proof.Machine

section Own

variable {s w : State} {n : Node} {id : ReqId} {next : EngineState} {mem : Memory} {o : ExchangeOutcome} {q q' : Request}

/-- What an ACTIVE request with no answer from a node then lost comes to. -/
def failedByLoss (s : State) (id : ReqId) (q : Request) (t : State) : Prop :=
  id ∉ t.acyclic.queue ∧ t.ports = s.ports ∧ t.arbiter = s.arbiter ∧
  (t.attn.get q.owner).entry (.request id) = (s.attn.get q.owner).entry (.request id) ||| Reason.requestFailed.bit ∧
  (t.request id = some { q with state := .failed, reason := some .nodeLost } ∨
    t.request id = some { q with
      failures := q.failures + 1
      state := .failed
      reason := some (if q.failures = 2 then .noAnswer else .nodeLost) })

/-- The loss finds the request ACTIVE and fails it. -/
theorem State.EndedBut.own_active (h : s.EndedBut id next mem w) (ho : o.answered = false) (hl : s.lossDue n = true)
    (hq : w.request id = some q') (hn : q'.node = n) (ha : q'.state = .active)
    (entry : ∀ p, (w.attn.get p).entry (.request id) = (s.attn.get p).entry (.request id))
    (owner : q'.owner = q.owner)
    (same : some { q' with state := .failed, reason := some .nodeLost } =
        some { q with state := .failed, reason := some .nodeLost } ∨
      some { q' with state := .failed, reason := some .nodeLost } = some { q with
        failures := q.failures + 1
        state := .failed
        reason := some (if q.failures = 2 then .noAnswer else .nodeLost) }) :
    failedByLoss s id q (w.report n o).advance := by
  have lost : lostWithRequest n q' := ⟨hn, .inr ha⟩
  obtain ⟨ports, arbiter, request, entries, queue⟩ := h.own ho hl
  refine ⟨fun hm => (queue hm).2 q' hq lost, ports, arbiter, ?_, ?_⟩
  · rw [entries, entry, hq]
    simp [lostRequestBits, hn, ha, owner]
  · rwa [request, hq, Option.map_some, lostRequest_of_lost lost]

end Own

/-- The outcome taken after the report of the loss finds the request FAILED. -/
theorem State.pieceResult_of_failed {s : State} {id : ReqId} {q : Request} (hq : s.request id = some q)
    (hf : q.state = .failed) (n : Nat) (o : ExchangeOutcome) : s.pieceResult id n o = s := by
  rw [State.pieceResult, hq]
  dsimp only
  rw [hf]

section Orders

variable {s u v : State} {x : Exchange} {n : Node} {id : ReqId} {next : EngineState} {mem : Memory}
  {o : ExchangeOutcome} {q : Request}

/-- The request's record replaced, and something told of it. -/
theorem State.EndedBut.changed (h : s.EndedBut id next mem v) {a : AcyclicScheduler} {t : PerPort AttnSet}
    {q' : Option Request} (requests : a.requests = v.acyclic.requests.set id.val q' id.isLt)
    (probeList : a.probeList = v.acyclic.probeList)
    (entry : ∀ p src, src ≠ .request id → (t.get p).entry src = (v.attn.get p).entry src) :
    s.EndedBut id next mem { v with acyclic := a, attn := t } :=
  ⟨h.ports, h.arbiter, h.table, h.store, h.engine, h.roster, h.applied, fun k hk => by
    rw [← h.request k hk, ← v.request_setRequest_other id k q' hk, State.request, State.request, State.acyclic_setRequest,
      requests], fun p src hs => (entry p src hs).trans (h.entry p src hs), probeList.trans h.probeList⟩

/-- The outcome taken first makes the request FAILED at the third failure, and the loss then leaves it alone. -/
theorem State.EndedBut.own_third (h : s.EndedBut id next mem v) (attn : v.attn = s.attn) (ho : o.answered = false)
    (hl : s.lossDue n = true) (hf : q.failures = 2) :
    s.EndedBut id next mem (v.pieceUnanswered id q) ∧ failedByLoss s id q ((v.pieceUnanswered id q).report n o).advance := by
  obtain ⟨q', hq'⟩ : ∃ q', q' = { q with failures := 3, state := ReqState.failed, reason := some FailReason.noAnswer } :=
    ⟨_, rfl⟩
  have failed : q'.state = .failed := by rw [hq']
  have raised (p : Port) (src : Source) :
      ((v.attn.put q.owner ((v.attn.get q.owner).raise (.request id) .requestFailed)).get p).entry src =
        (v.attn.get p).entry src ||| if p = q.owner ∧ src = .request id then Reason.requestFailed.bit else 0 :=
    State.entry_raise v q.owner (.request id) .requestFailed p src
  rw [State.pieceUnanswered_of_third v id hf, ← hq']
  have ended := h.changed (a := outOfQueue v id (some q')) (q' := some q') rfl rfl
    (t := v.attn.put q.owner ((v.attn.get q.owner).raise (.request id) .requestFailed))
    fun p src hs => by rw [raised, if_neg fun hc => hs hc.2, reasons_or_zero]
  generalize hw : { v with
    acyclic := outOfQueue v id (some q')
    attn := v.attn.put q.owner ((v.attn.get q.owner).raise (.request id) .requestFailed) } = w at ended ⊢
  have w_request : w.request id = some q' := by
    rw [← hw]
    exact v.request_setRequest_same id (some q')
  have w_queue : w.acyclic.queue = v.acyclic.queue.filter (· ≠ id) := by
    rw [← hw]
    rfl
  have w_entry (p : Port) := raised p (.request id)
  have w_attn : w.attn = v.attn.put q.owner ((v.attn.get q.owner).raise (.request id) .requestFailed) := by rw [← hw]
  rw [← w_attn] at w_entry
  have unlost : ¬ lostWithRequest n q' := by
    rintro ⟨-, hs | hs⟩ <;> rw [failed] at hs <;> cases hs
  obtain ⟨ports, arbiter, request, entries, queue⟩ := ended.own ho hl
  refine ⟨ended, fun hm => ?_, ports, arbiter, ?_, .inr ?_⟩
  · have listed := (queue hm).1
    rw [w_queue] at listed
    simp at listed
  · rw [entries, w_entry, attn, w_request, lostRequestBits_of_unlost (fun _ e => by cases e; exact unlost),
      reasons_or_zero, if_pos ⟨rfl, rfl⟩]
  · rw [request, w_request, Option.map_some, lostRequest_of_unlost unlost, hq', hf, if_pos rfl]

/-- The outcome taken first counts an earlier failure, and the loss then fails the request. -/
theorem State.EndedBut.own_earlier (h : s.EndedBut id next mem v) (attn : v.attn = s.attn) (ho : o.answered = false)
    (hl : s.lossDue n = true) (ha : q.state = .active) (hn : q.node = n) (hf : q.failures ≠ 2) :
    s.EndedBut id next mem (v.pieceUnanswered id q) ∧ failedByLoss s id q ((v.pieceUnanswered id q).report n o).advance := by
  rw [State.pieceUnanswered_of_earlier v id hf]
  have ended := h.changed (a := inQueue v id { q with failures := q.failures + 1 }) (t := v.attn) rfl rfl
    fun p src hs => rfl
  refine ⟨ended, ended.own_active (q' := { q with failures := q.failures + 1 }) ho hl ?_ hn ha
    (fun p => by rw [attn]) rfl (.inr (by rw [if_neg hf]))⟩
  exact v.request_setRequest_same id _

/-- The end of an ACTIVE request's piece that loses its node leaves what some state that differs in the request alone
leaves when the loss is reported to it, whatever the order of report and outcome. -/
theorem State.endPiece_lost (h : s.EndedBut id next mem u) (acyclic : u.acyclic = s.acyclic) (attn : u.attn = s.attn)
    (ho : o.answered = false) (hl : s.lossDue n = true) (hq : s.request id = some q) (ha : q.state = .active)
    (hn : q.node = n) (count : Nat) :
    ∃ w, s.EndedBut id next mem w ∧ u.endPiece id count n o = w.report n o ∧
      failedByLoss s id q (w.report n o).advance := by
  have request : u.request id = some q := (State.request_congr acyclic id).trans hq
  have due : u.lossDue n = true := (State.lossDue_congr h.roster (by rw [h.applied]) n).trans hl
  have shows : u.orderShows id n o = true := by
    rw [State.orderShows, request, due, ho]
    dsimp only
    rw [ha]
    rfl
  unfold State.endPiece
  rw [shows, if_pos rfl]
  dsimp only
  have ended : s.EndedBut id next mem { u with freeIndex := u.freeIndex + 1 } :=
    ⟨h.ports, h.arbiter, h.table, h.store, h.engine, h.roster, h.applied, h.request, h.entry, h.probeList⟩
  have v_request : { u with freeIndex := u.freeIndex + 1 }.request id = some q := request
  have v_attn : { u with freeIndex := u.freeIndex + 1 }.attn = s.attn := attn
  generalize { u with freeIndex := u.freeIndex + 1 } = v at ended v_request v_attn ⊢
  split
  · have failed : (v.report n o).request id = some { q with state := .failed, reason := some .nodeLost } := by
      rw [(ended.losesNode ho hl).1.request, v_request, Option.map_some, lostRequest_of_lost ⟨hn, .inr ha⟩]
    exact ⟨v, ended, State.pieceResult_of_failed failed rfl _ _,
      ended.own_active ho hl v_request hn ha (fun p => by rw [v_attn]) rfl (.inl rfl)⟩
  · rw [State.pieceResult_unanswered v_request ha ho]
    have taken : s.EndedBut id next mem (v.pieceUnanswered id q) ∧
        failedByLoss s id q ((v.pieceUnanswered id q).report n o).advance := by
      by_cases hf : q.failures = 2
      · exact ended.own_third v_attn ho hl hf
      · exact ended.own_earlier v_attn ho hl ha hn hf
    exact ⟨_, taken.1, rfl, taken.2⟩

end Orders

/-! ### The statement -/

/-- Settles O59: the node kept, or lost with it in either order. -/
theorem pieceUnanswered : Obligations.PieceUnanswered := by
  intro s x id kind offset n q c m next hs ends reaches hp hq live hn
  obtain ⟨o, ho, exec_eq⟩ := State.exec_endsUnanswered ends reaches
  rw [State.ended_of_ne_probe (by rw [hp]; nofun)] at exec_eq
  refine ⟨_, s.endPlaced_payloadMem x c, ?_⟩
  generalize s.payloadMem x.poll (endPayload x.poll c) = mem at exec_eq ⊢
  intro v
  generalize hu : { exchangeOver s c m next with store := { s.store with mem := mem } } = u at exec_eq
  have sched : u.sched = s.sched := by rw [← hu]; rfl
  have acyclic : u.acyclic = s.acyclic := by rw [← hu]; rfl
  have attn : u.attn = s.attn := by rw [← hu]; rfl
  have ended : s.EndedBut id next mem u := by
    rw [← hu]
    exact ⟨rfl, rfl, rfl, rfl, rfl, rfl, rfl, fun _ _ => rfl, fun _ _ _ => rfl, rfl⟩
  have request : u.request id = some q := (State.request_congr acyclic id).trans hq
  have due : u.lossDue x.node = s.lossDue x.node := State.lossDue_congr ended.roster (by rw [ended.applied]) x.node
  refine ⟨fun hl => ?_, fun hl => ?_⟩
  · rw [hl] at due
    have reported : u.report x.node o = v := by
      rw [State.report_unanswered ho due, withNode_congr ended.roster, State.node_of_sameRoster ended.roster, ← hu]
    have v_acyclic : v.acyclic = s.acyclic := rfl
    have v_attn : v.attn = s.attn := rfl
    have v_request : v.request id = some q := hq
    clear_value v
    have outcome : u.endExchange x o = movedOn (v.pieceResult id n o) := by
      rw [State.endExchange_movedOn (hs.of_sched sched), State.reported_of_piece hp,
        State.endPiece_of_agree (State.orderShows_of_kept due id o), reported]
    refine ⟨fun hc => ?_, fun ha hf => ?_, fun ha hf => ?_⟩
    · rw [exec_eq, outcome, State.pieceResult_of_cancelling v_request hc]
    · rw [exec_eq, outcome, State.pieceResult_unanswered v_request ha ho, State.pieceUnanswered_of_earlier v id hf,
        inQueue_congr v_acyclic]
    · rw [exec_eq, outcome, State.pieceResult_unanswered v_request ha ho, State.pieceUnanswered_of_third v id hf,
        outOfQueue_congr v_acyclic, v_attn]
  · rw [hl] at due
    obtain ha | hc := live
    · obtain ⟨w, before, piece, fails⟩ := State.endPiece_lost ended acyclic attn ho hl hq ha hn n
      have outcome : u.endExchange x o = (w.report x.node o).advance := by
        rw [State.endExchange_eq, State.reported_of_piece hp, piece]
      have around := before.lostAround_advance ho hl
      rw [exec_eq, outcome]
      exact ⟨_, rfl, around.engine, around.node, around.others, around.store, around.load, around.told,
        fun hc => absurd (ha.symm.trans hc) nofun, fun _ => fails⟩
    · have kept : (u.report x.node o).request id = some q := by
        rw [(ended.losesNode ho hl).1.request, request, Option.map_some,
          lostRequest_of_unlost fun lost => by rcases lost.2 with e | e <;> rw [hc] at e <;> cases e]
      have outcome : u.endExchange x o = (cancelledAtEnd (u.report x.node o) id q).advance := by
        rw [State.endExchange_eq, State.reported_of_piece hp,
          State.endPiece_of_agree (State.orderShows_of_cancelling request hc _ _),
          State.pieceResult_of_cancelling kept hc]
      have around := ended.lostAround_cancelled ho hl q
      have ports : (u.report x.node o).ports = s.ports := by simp [ended.ports]
      have arbiter : (u.report x.node o).arbiter = s.arbiter := by simp [ended.arbiter]
      rw [exec_eq, outcome]
      refine ⟨_, rfl, around.engine, around.node, around.others, around.store, around.load, around.told,
        fun _ => ⟨?_, fun hm => ?_, ?_, ?_⟩, fun ha => absurd (hc.symm.trans ha) nofun⟩
      · rw [(State.onward_advance _).request id nofun]
        exact (u.report x.node o).request_setRequest_same id none
      · have listed := (State.onward_advance _).queue id hm
        simp [cancelledAtEnd, outOfQueue] at listed
      · rw [(State.frame_advance _).1]
        exact (unparked_congr ports arbiter _).1
      · rw [(State.frame_advance _).2.1]
        exact (unparked_congr ports arbiter _).2

end Sys2Proof.Machine
end

section
/-! PROOFS. The end of a port's session: its records retired, its requests cancelled (R16, R97, R98, R106, R133, R146, R153,
R163, R164). -/

namespace Sys2Proof.Machine

/-! ### Records off the lists together (R97) -/

/-- The lists without the records that `P` names. -/
def offLists (s : State) (P : Handle → Bool) : CyclicScheduler :=
  { due := s.sched.due.filter fun h => !P h
    retry := s.sched.retry.filter fun h => !P h
    entries := s.sched.entries.map fun e =>
      if P e.handle = true ∧ e.disposition ≠ .served then { e with disposition := .excused } else e }

theorem offLists_of_none (s : State) {P : Handle → Bool} (h : ∀ k, P k = false) : offLists s P = s.sched := by
  simp [offLists, h]

theorem unlisted_eq_offLists (s : State) (h : Handle) : unlisted s h = offLists s fun k => decide (k = h) := by
  simp [unlisted, offLists]

theorem offLists_offLists {s t : State} {P : Handle → Bool} (ht : t.sched = offLists s P) (Q : Handle → Bool) :
    offLists t Q = offLists s fun k => P k || Q k := by
  unfold offLists
  rw [ht]
  simp only [offLists, List.filter_filter, List.map_map, Bool.not_or, Bool.and_comm]
  congr 1
  refine List.map_congr_left fun e _ => ?_
  simp only [Function.comp_apply]
  by_cases hd : e.disposition = .served
  · simp [hd]
  · by_cases hP : P e.handle = true
    · simp [hP, hd]
    · simp [hP, hd]

/-! ### The records of a session (R16) -/

/-- A session's end retires the record: it is the port's and not CLOSING already. -/
def State.leaves (s : State) (p : Port) (h : Handle) : Bool :=
  (s.record h).any fun r => decide (r.owner = p ∧ r.state ≠ .closing)

/-- A record after the end of a session. -/
def State.leftOf (s : State) (p : Port) (h : Handle) : Option StreamRecord :=
  (s.record h).bind fun r =>
    if r.owner ≠ p ∨ r.state = .closing then some r
    else if s.recordInFlight h then some { r with state := .closing, amendment := none }
    else none

/-- `u` is `s` with the port's records of a list retired. -/
structure State.RetiresIn (s : State) (p : Port) (l : List Handle) (u : State) : Prop where
  record : ∀ k, u.record k = if k ∈ l then s.leftOf p k else s.record k
  sched : u.sched = offLists s fun k => decide (k ∈ l) && s.leaves p k
  marks : s.MarksOnly u
  kept : u.ports = s.ports ∧ u.attn = s.attn ∧ u.arbiter = s.arbiter ∧ u.trunk = s.trunk ∧ u.acyclic = s.acyclic ∧
    s.SameLine u

theorem State.leaves_iff {s : State} {p : Port} {h : Handle} :
    s.leaves p h = true ↔ ∃ r, s.record h = some r ∧ r.owner = p ∧ r.state ≠ .closing := by
  simp [State.leaves, Option.any_eq_true]

theorem State.leftOf_of_stays {s : State} {p : Port} {h : Handle} (hs : s.leaves p h = false) :
    s.leftOf p h = s.record h := by
  unfold State.leftOf
  cases hr : s.record h with
  | none => rfl
  | some r =>
    have stays : r.owner ≠ p ∨ r.state = .closing := by
      rw [State.leaves, hr, Option.any_some, decide_eq_false_iff_not] at hs
      tauto
    rw [Option.bind_some, if_pos stays]

theorem State.retireOwned_of_stays {s : State} {p : Port} {h : Handle} (hs : s.leaves p h = false) :
    State.retireOwned p s h = s := by
  unfold State.retireOwned
  cases hr : s.record h with
  | none => rfl
  | some r =>
    rw [State.leaves, hr, Option.any_some, decide_eq_false_iff_not] at hs
    dsimp only
    by_cases ho : r.owner = p
    · rw [if_pos ho, State.retire, if_pos (by tauto)]
    · rw [if_neg ho]

theorem State.sameLine_refl (s : State) : s.SameLine s := ⟨rfl, rfl, rfl, rfl⟩

theorem State.retiresIn_self {s : State} {p : Port} {l : List Handle} (hs : ∀ k, k ∈ l → s.leaves p k = false) :
    s.RetiresIn p l s where
  record k := by
    split
    · next hk => rw [State.leftOf_of_stays (hs k hk)]
    · rfl
  sched := (offLists_of_none s fun k => by
    by_cases hk : k ∈ l
    · rw [hs k hk, Bool.and_false]
    · rw [decide_eq_false hk, Bool.false_and]).symm
  marks := .refl s
  kept := ⟨rfl, rfl, rfl, rfl, rfl, s.sameLine_refl⟩

/-- One record's part in the end of a session. -/
theorem State.retiresIn_retireOwned (s : State) (p : Port) (h : Handle) :
    s.RetiresIn p [h] (State.retireOwned p s h) := by
  cases hs : s.leaves p h with
  | false =>
    rw [State.retireOwned_of_stays hs]
    exact State.retiresIn_self fun k hk => by rwa [List.mem_singleton.1 hk]
  | true =>
    obtain ⟨r, hr, ho, hc⟩ := State.leaves_iff.1 hs
    have retired : State.retireOwned p s h = s.retire h r := by
      unfold State.retireOwned
      rw [hr]
      exact if_pos ho
    have left : s.leftOf p h =
        if s.recordInFlight h then some { r with state := .closing, amendment := none } else none := by
      rw [State.leftOf, hr, Option.bind_some, if_neg (by tauto)]
    have lists : unlisted s h = offLists s fun k => decide (k ∈ [h]) && s.leaves p k := by
      rw [unlisted_eq_offLists]
      congr 1
      funext k
      by_cases e : k = h
      · simp [e, hs]
      · simp [e]
    have records {o : Option StreamRecord} (here : s.leftOf p h = o) (replaced : s.Replaced h o (s.retire h r))
        (k : Handle) : (s.retire h r).record k = if k ∈ [h] then s.leftOf p k else s.record k := by
      by_cases e : k = h
      · rw [if_pos (by simp [e]), e, here, replaced.1]
      · rw [if_neg (by simpa using e), replaced.2 k e]
    rw [retired]
    cases hf : s.recordInFlight h with
    | true =>
      have closing := State.leftClosing_retire hc hf
      rw [hf, if_pos rfl] at left
      obtain ⟨ports, attn, arbiter, trunk, acyclic, -, line⟩ := closing.kept
      exact ⟨records left closing.replaced, closing.sched.trans lists, s.marksOnly_retire h r,
        ports, attn, arbiter, trunk, acyclic, line⟩
    | false =>
      have freed := State.freedWhole_retire hc hf
      rw [hf, if_neg nofun] at left
      exact ⟨records left freed.replaced, freed.sched.trans lists, s.marksOnly_retire h r, freed.kept⟩

theorem State.SameLine.trans {s t u : State} (h : s.SameLine t) (k : t.SameLine u) : s.SameLine u :=
  ⟨k.1.trans h.1, k.2.1.trans h.2.1, k.2.2.1.trans h.2.2.1, k.2.2.2.trans h.2.2.2⟩

/-- The records of distinct handles, each as it would be alone. -/
theorem State.retiresIn_foldl {l : List Handle} (hl : l.Nodup) (s : State) (p : Port) :
    s.RetiresIn p l (l.foldl (State.retireOwned p) s) := by
  induction l generalizing s with
  | nil => exact State.retiresIn_self nofun
  | cons h l ih =>
    obtain ⟨hh, hl⟩ := List.nodup_cons.1 hl
    rw [List.foldl_cons]
    have one := s.retiresIn_retireOwned p h
    generalize State.retireOwned p s h = t at one ⊢
    have rest := ih hl t
    generalize l.foldl (State.retireOwned p) t = u at rest ⊢
    have other {k : Handle} (hk : k ≠ h) : t.record k = s.record k := by
      rw [one.record, if_neg (by simpa using hk)]
    obtain ⟨ports, attn, arbiter, trunk, acyclic, line⟩ := one.kept
    obtain ⟨ports', attn', arbiter', trunk', acyclic', line'⟩ := rest.kept
    have flight (k : Handle) : t.recordInFlight k = s.recordInFlight k := by
      rw [State.recordInFlight_eq, State.recordInFlight_eq, line.1]
    refine ⟨fun k => ?_, ?_, one.marks.trans rest.marks, ports'.trans ports, attn'.trans attn, arbiter'.trans arbiter,
      trunk'.trans trunk, acyclic'.trans acyclic, line.trans line'⟩
    · rw [rest.record, one.record]
      by_cases e : k = h
      · simp [e, hh]
      · simp [e, State.leftOf, other e, flight]
    · rw [rest.sched, offLists_offLists one.sched]
      congr 1
      funext k
      by_cases e : k = h
      · simp [e, hh]
      · simp [e, State.leaves, other e]

end Sys2Proof.Machine
end

section
/-! PROOFS. The requests of a session, and PORT_RESET as a whole (R16, R97, R98, R106, R133, R146, R153, R163, R164). -/

namespace Sys2Proof.Machine

/-! ### The requests of a session (R146) -/

/-- A session's end cancels the request: it is the port's and not CANCELLING already. -/
def State.ends (s : State) (p : Port) (id : ReqId) : Bool :=
  (s.request id).any fun q => decide (q.owner = p ∧ q.state ≠ .cancelling)

/-- A request after the end of a session. -/
def State.cancelledOf (s : State) (p : Port) (id : ReqId) : Option Request :=
  (s.request id).bind fun q =>
    if q.owner ≠ p ∨ q.state = .cancelling then some q
    else if q.state = .active ∧ s.requestInFlight id = true then some { q with state := .cancelling }
    else none

/-- `u` is `s` with the port's requests of a list cancelled. -/
structure State.CancelsIn (s : State) (p : Port) (l : List ReqId) (u : State) : Prop where
  request : ∀ id, u.request id = if id ∈ l then s.cancelledOf p id else s.request id
  acyclic : u.acyclic = { s.acyclic with
    requests := u.acyclic.requests
    queue := s.acyclic.queue.filter fun id => !(decide (id ∈ l) && s.ends p id)
    deferred := s.acyclic.deferred.filter fun id => !(decide (id ∈ l) && s.ends p id) }
  rest : u = { s with acyclic := u.acyclic }

theorem State.ends_iff {s : State} {p : Port} {id : ReqId} :
    s.ends p id = true ↔ ∃ q, s.request id = some q ∧ q.owner = p ∧ q.state ≠ .cancelling := by
  simp [State.ends, Option.any_eq_true]

theorem State.cancelledOf_of_stays {s : State} {p : Port} {id : ReqId} (hs : s.ends p id = false) :
    s.cancelledOf p id = s.request id := by
  unfold State.cancelledOf
  cases hq : s.request id with
  | none => rfl
  | some q =>
    have stays : q.owner ≠ p ∨ q.state = .cancelling := by
      rw [State.ends, hq, Option.any_some, decide_eq_false_iff_not] at hs
      tauto
    rw [Option.bind_some, if_pos stays]

theorem State.cancelOwned_of_stays {s : State} {p : Port} {id : ReqId} (hs : s.ends p id = false) :
    State.cancelOwned p s id = s := by
  unfold State.cancelOwned
  cases hq : s.request id with
  | none => rfl
  | some q =>
    rw [State.ends, hq, Option.any_some, decide_eq_false_iff_not] at hs
    dsimp only
    by_cases ho : q.owner = p
    · rw [if_pos ho, State.cancel, if_pos (by tauto)]
    · rw [if_neg ho]

/-- A request that the session's end cancels is out of the queue. -/
theorem State.cancelOwned_of_ends {s : State} {p : Port} {id : ReqId} (hs : s.ends p id = true) :
    State.cancelOwned p s id = { s with acyclic := outOfQueue s id (s.cancelledOf p id) } := by
  obtain ⟨q, hq, ho, hc⟩ := State.ends_iff.1 hs
  have cancelled : State.cancelOwned p s id = s.cancel id q := by
    unfold State.cancelOwned
    rw [hq]
    exact if_pos ho
  rw [cancelled, State.cancelledOf, hq, Option.bind_some, if_neg (by tauto)]
  by_cases hf : q.state = .active ∧ s.requestInFlight id = true
  · rw [if_pos hf, State.cancel_in_flight hf.1 hf.2]
  · rw [if_neg hf, State.cancel_of_idle hc hf]

theorem State.cancelsIn_self {s : State} {p : Port} {l : List ReqId} (hs : ∀ id, id ∈ l → s.ends p id = false) :
    s.CancelsIn p l s := by
  have none_ends (id : ReqId) : (decide (id ∈ l) && s.ends p id) = false := by
    by_cases hid : id ∈ l
    · rw [hs id hid, Bool.and_false]
    · rw [decide_eq_false hid, Bool.false_and]
  refine ⟨fun id => ?_, ?_, rfl⟩
  · split
    · next hid => rw [State.cancelledOf_of_stays (hs id hid)]
    · rfl
  · simp [none_ends]

/-- One request's part in the end of a session. -/
theorem State.cancelsIn_cancelOwned (s : State) (p : Port) (id : ReqId) :
    s.CancelsIn p [id] (State.cancelOwned p s id) := by
  cases hs : s.ends p id with
  | false =>
    rw [State.cancelOwned_of_stays hs]
    exact State.cancelsIn_self fun k hk => by rwa [List.mem_singleton.1 hk]
  | true =>
    rw [State.cancelOwned_of_ends hs]
    have off : (fun k => !(decide (k ∈ [id]) && s.ends p k)) = fun k => decide (k ≠ id) := by
      funext k
      by_cases e : k = id
      · simp [e, hs]
      · simp [e]
    refine ⟨fun k => ?_, ?_, rfl⟩
    · show (s.setRequest id (s.cancelledOf p id)).request k = _
      by_cases e : k = id
      · simp [e]
      · rw [s.request_setRequest_other id k _ e, if_neg (by simpa using e)]
    · rw [off]
      rfl

/-- The requests of distinct ids, each as it would be alone. -/
theorem State.cancelsIn_foldl {l : List ReqId} (hl : l.Nodup) (s : State) (p : Port) :
    s.CancelsIn p l (l.foldl (State.cancelOwned p) s) := by
  induction l generalizing s with
  | nil => exact State.cancelsIn_self nofun
  | cons i l ih =>
    obtain ⟨hi, hl⟩ := List.nodup_cons.1 hl
    rw [List.foldl_cons]
    have one := s.cancelsIn_cancelOwned p i
    generalize State.cancelOwned p s i = t at one ⊢
    have others := ih hl t
    generalize l.foldl (State.cancelOwned p) t = u at others ⊢
    have other {k : ReqId} (hk : k ≠ i) : t.request k = s.request k := by
      rw [one.request, if_neg (by simpa using hk)]
    have flight (k : ReqId) : t.requestInFlight k = s.requestInFlight k := by
      rw [one.rest]
      rfl
    have stays (k : ReqId) : (!(decide (k ∈ l) && t.ends p k) && !(decide (k ∈ [i]) && s.ends p k)) =
        !(decide (k ∈ i :: l) && s.ends p k) := by
      by_cases e : k = i
      · simp [e, hi]
      · simp [e, State.ends, other e]
    refine ⟨fun k => ?_, ?_, ?_⟩
    · rw [others.request, one.request]
      by_cases e : k = i
      · simp [e, hi]
      · simp [e, State.cancelledOf, other e, flight]
    · rw [others.acyclic, one.acyclic]
      simp only [List.filter_filter, stays]
    · rw [others.rest, one.rest]

/-! ### The session ended (R163) -/

/-- `w` is `s` with the port's records retired, its requests cancelled and its commands withdrawn. -/
structure State.Withdrawn (s : State) (p : Port) (w : State) : Prop where
  ports : w.ports = s.ports
  attn : w.attn = s.attn
  arbiter : w.arbiter = s.arbiter.endSession p
  trunk : w.trunk = s.trunk
  line : s.SameLine w
  record : ∀ k, w.record k = s.leftOf p k
  sched : w.sched = offLists s (s.leaves p)
  request : ∀ id, w.request id = s.cancelledOf p id
  acyclic : w.acyclic = { s.acyclic with
    requests := w.acyclic.requests
    queue := s.acyclic.queue.filter fun id => !s.ends p id
    deferred := s.acyclic.deferred.filter fun id => !s.ends p id }
  marks : s.MarksOnly w

theorem State.withdrawn_withdrawn (s : State) (p : Port) : s.Withdrawn p (s.withdrawn p) := by
  obtain ⟨a, ha⟩ : ∃ a : State, a = { s with arbiter := s.arbiter.endSession p } := ⟨_, rfl⟩
  have retires := State.retiresIn_foldl (List.nodup_finRange 64) a p
  rw [← handles] at retires
  rw [State.withdrawn, ← ha]
  generalize handles.foldl (State.retireOwned p) a = r at retires ⊢
  have cancels := State.cancelsIn_foldl (List.nodup_finRange 8) r p
  rw [← reqIds] at cancels
  generalize reqIds.foldl (State.cancelOwned p) r = w at cancels ⊢
  obtain ⟨ports, attn, arbiter, trunk, acyclic, line⟩ := retires.kept
  have all_handles (k : Handle) : k ∈ handles := List.mem_finRange k
  have all_ids (id : ReqId) : id ∈ reqIds := List.mem_finRange id
  have a_leaves (k : Handle) : a.leaves p k = s.leaves p k := by rw [ha]; rfl
  have a_lists (P : Handle → Bool) : offLists a P = offLists s P := by rw [ha]; rfl
  have a_left (k : Handle) : a.leftOf p k = s.leftOf p k := by rw [ha]; rfl
  have a_line : s.SameLine a := by rw [ha]; exact s.sameLine_refl
  have a_marks : s.MarksOnly a := by rw [ha]; exact State.marksOnly_of_same rfl rfl rfl
  have r_acyclic : r.acyclic = s.acyclic := by rw [acyclic, ha]
  have requests := State.request_congr r_acyclic
  have flight (id : ReqId) : r.requestInFlight id = s.requestInFlight id := by
    rw [State.requestInFlight_eq, State.requestInFlight_eq, (a_line.trans line).1]
  have r_ends (id : ReqId) : r.ends p id = s.ends p id := by rw [State.ends, requests, State.ends]
  obtain ⟨w_ports, w_attn, w_arbiter, w_trunk, w_line, w_table, w_sched, w_marks⟩ : w.ports = r.ports ∧ w.attn = r.attn ∧
      w.arbiter = r.arbiter ∧ w.trunk = r.trunk ∧ r.SameLine w ∧ w.table = r.table ∧ w.sched = r.sched ∧
      r.MarksOnly w := by
    rw [cancels.rest]
    exact ⟨rfl, rfl, rfl, rfl, r.sameLine_refl, rfl, rfl, State.marksOnly_of_same rfl rfl rfl⟩
  exact {
    ports := by rw [w_ports, ports, ha]
    attn := by rw [w_attn, attn, ha]
    arbiter := by rw [w_arbiter, arbiter, ha]
    trunk := by rw [w_trunk, trunk, ha]
    line := (a_line.trans line).trans w_line
    record := fun k => by rw [State.record_of_table w_table, retires.record, if_pos (all_handles k), a_left]
    sched := by
      rw [w_sched, retires.sched, a_lists]
      simp [all_handles, a_leaves]
    request := fun id => by
      rw [cancels.request, if_pos (all_ids id), State.cancelledOf, State.cancelledOf, requests, flight]
    acyclic := by
      have eq := cancels.acyclic
      simpa only [all_ids, decide_true, Bool.true_and, r_ends, r_acyclic] using eq
    marks := (a_marks.trans retires.marks).trans w_marks }

/-- A port as the end of its session leaves it, with its attention set. -/
def State.portEnded (w : State) (p : Port) : State :=
  ({ w with attn := w.attn.put p .empty } : State).updPort p fun _ => .reset

theorem State.frame_portEnded (w : State) (p : Port) :
    (w.portEnded p).arbiter = w.arbiter ∧ (w.portEnded p).table = w.table ∧ (w.portEnded p).store = w.store ∧
    (w.portEnded p).trunk = w.trunk ∧ (w.portEnded p).sched = w.sched ∧ (w.portEnded p).acyclic = w.acyclic ∧
    (w.portEnded p).roster = w.roster ∧ w.SameLine (w.portEnded p) := ⟨rfl, rfl, rfl, rfl, rfl, rfl, rfl, rfl, rfl, rfl, rfl⟩

theorem State.endSession_advance (s : State) (p : Port) : s.endSession p = ((s.withdrawn p).portEnded p).advance := rfl

theorem offLists_entriesOnce {s t : State} (hs : s.EntriesOnce) {P : Handle → Bool} (ht : t.sched = offLists s P) :
    t.EntriesOnce := by
  unfold State.EntriesOnce
  rw [ht]
  exact State.entriesOnce_map (fun e => by split <;> rfl) hs

theorem State.exec_portReset {p : Port} {s : State} {status : Byte}
    (hp : (s.ports.get p).txn = .active status none) (once : s.EntriesOnce) (extra : List Byte) :
    exec (.portReset p (0xC3 :: 0x69 :: extra)) s = .next (movedOn ((s.withdrawn p).portEnded p)) := by
  have ended_once : ((s.withdrawn p).portEnded p).EntriesOnce := offLists_entriesOnce once
    ((State.frame_portEnded _ p).2.2.2.2.1.trans (s.withdrawn_withdrawn p).sched)
  rw [← State.advance_eq ended_once, ← State.endSession_advance]
  show execPortReset p _ s = _
  simp only [execPortReset, hp]
  rw [if_pos (by rfl)]

theorem State.all_stays (s : State) (p : Port) (id : ReqId) :
    ((s.request id).all fun q => decide (q.owner ≠ p ∨ q.state = .cancelling)) = !s.ends p id := by
  unfold State.ends
  cases s.request id with
  | none => rfl
  | some q =>
    rw [Option.all_some, Option.any_some, ← decide_not]
    refine decide_eq_decide.2 ?_
    tauto

/-- Settles O41: the records retired, the requests cancelled, the port reset, and the phases moved on. -/
theorem portReset : Obligations.PortReset := by
  intro p s extra status once hp
  refine ⟨(s.withdrawn p).portEnded p, ?_⟩
  intro leaves stays
  have stay : stays = fun id => !s.ends p id := funext (s.all_stays p)
  refine ⟨State.exec_portReset hp once extra, ?_⟩
  have ended := s.withdrawn_withdrawn p
  generalize s.withdrawn p = w at ended ⊢
  obtain ⟨arbiter, table, store, trunk, sched, acyclic, roster, line⟩ := w.frame_portEnded p
  have ports : (w.portEnded p).ports = w.ports.put p .reset := rfl
  have attn : (w.portEnded p).attn = w.attn.put p .empty := rfl
  generalize w.portEnded p = t at *
  have record (k : Handle) := (State.record_of_table table k).trans (ended.record k)
  have request (id : ReqId) := (State.request_congr acyclic id).trans (ended.request id)
  have lists := sched.trans ended.sched
  have queues := acyclic.trans ended.acyclic
  have node (n : Node) : (t.node n).state = (s.node n).state ∧ (t.node n).identity = (s.node n).identity ∧
      (t.node n).failures = (s.node n).failures := by
    rw [State.node_of_sameRoster roster]
    exact ended.marks.nodes n
  refine ⟨?_, fun i => ?_, fun o ho => ⟨?_, ?_⟩, ?_, ?_, record, ?_, ?_, ?_,
    request, ?_, ?_, ?_, ?_, ?_, node, ?_, trunk.trans ended.trunk, ended.line.trans line⟩
  · rw [ports, PerPort.get_put_same]
    rfl
  · simp [attn, AttnSet.empty]
  · rw [ports, PerPort.get_put_other _ _ _ _ ho, ended.ports]
  · rw [attn, PerPort.get_put_other _ _ _ _ ho, ended.attn]
  · simp [arbiter, ended.arbiter, Arbiter.endSession, bne, beq_eq_decide]
  · rw [arbiter, ended.arbiter]
    rfl
  · rw [lists]
    rfl
  · rw [lists]
    rfl
  · rw [lists]
    rfl
  · rw [queues, stay]
  · rw [queues, stay]
  · rw [queues]
  · rw [queues]
  · rw [queues]
  · rw [store, ended.marks.mem]

end Sys2Proof.Machine
end
